-- ==== Sys2Proof/Word.lean ====
section
/-! DEFINITION. The two word types of the machine (R8, R13). -/

namespace Sys2Proof

/-- A byte: 8 bits (R11). Registers A, X, Y, SP, P and every memory cell. -/
abbrev Byte := BitVec 8

/-- A word: 16 bits (R11). The program counter and every address. -/
abbrev Word := BitVec 16

end Sys2Proof
end

