-- ==== Sys2Proof/Machine/Alu.lean ====
section
/-! DEFINITION. The 6502_alu: pure functions on bytes (R180 to R187). -/

namespace Sys2Proof.Machine

/-- A carry as a number, 0 or 1. -/
def carryNat (c : Bool) : Nat := if c then 1 else 0

/-- The outputs of an addition: result, carry, overflow (R180). -/
structure AluSum where
  /-- the 8-bit result -/
  r : Byte
  /-- the carry out of bit 7 -/
  c : Bool
  /-- the signed overflow -/
  v : Bool
  deriving DecidableEq, Repr

/-- `alu_add` (R180): the exact sum, reduced; binary whatever D holds. -/
def aluAdd (a b : Byte) (cin : Bool) : AluSum :=
  let s := a.toNat + b.toNat + carryNat cin
  let r := BitVec.ofNat 8 s
  { r := r, c := decide (256 ≤ s), v := decide (((a ^^^ r) &&& (b ^^^ r) &&& 0x80) ≠ 0) }

/-- `alu_sub` (R182): the carry in is "not borrow". -/
def aluSub (a b : Byte) (cin : Bool) : AluSum := aluAdd a (b ^^^ 0xFF) cin

/-- `alu_and` (R183). -/
def aluAnd (a b : Byte) : Byte := a &&& b

/-- `alu_or` (R183). -/
def aluOr (a b : Byte) : Byte := a ||| b

/-- `alu_xor` (R183). -/
def aluXor (a b : Byte) : Byte := a ^^^ b

/-- `alu_cmp` (R184): the difference and "no borrow". -/
def aluCmp (r m : Byte) : Byte × Bool := (r - m, decide (m.toNat ≤ r.toNat))

/-- `alu_asl` (R185). The carry in is not used. -/
def aluAsl (v : Byte) (_cin : Bool) : Byte × Bool := (v <<< 1, v.getLsbD 7)

/-- `alu_lsr` (R185). The carry in is not used. -/
def aluLsr (v : Byte) (_cin : Bool) : Byte × Bool := (v >>> 1, v.getLsbD 0)

/-- `alu_rol` (R185): the carry comes in at bit 0. -/
def aluRol (v : Byte) (cin : Bool) : Byte × Bool := ((v <<< 1) ||| (if cin then 0x01 else 0x00), v.getLsbD 7)

/-- `alu_ror` (R185): the carry comes in at bit 7. -/
def aluRor (v : Byte) (cin : Bool) : Byte × Bool := ((if cin then 0x80 else 0x00) ||| (v >>> 1), v.getLsbD 0)

/-- `alu_inc` (R186). -/
def aluInc (v : Byte) : Byte := v + 1

/-- `alu_dec` (R186). -/
def aluDec (v : Byte) : Byte := v - 1

end Sys2Proof.Machine
end

