-- ==== Sys2Proof/Machine/Bits.lean ====
section
/-! DEFINITION. The bit-field, extension and byte-order helpers of the spec's notation (R13). -/

namespace Sys2Proof

/-- `hi(w) = w[15:8]` (R13). -/
def hiByte (w : Word) : Byte := w.extractLsb' 8 8

/-- `lo(w) = w[7:0]` (R13). -/
def loByte (w : Word) : Byte := w.extractLsb' 0 8

/-- `w16(hi, lo) = hi * 256 + lo` (R13). -/
def w16 (hi lo : Byte) : Word := hi ++ lo

/-- `page(w) = w & 0xFF00` (R13). -/
def page (w : Word) : Word := w &&& 0xFF00

/-- `zext_16(b)`: the word whose value is `b` (R13). -/
def zext16 (b : Byte) : Word := b.setWidth 16

/-- `sext_16(b)`: the two's-complement sign extension of a byte (R13). -/
def sext16 (b : Byte) : Word := b.signExtend 16

end Sys2Proof
end

