-- ==== Sys2Proof/Machine/Modes.lean ====
section
/-! DEFINITION. The tags of the decoder: mnemonics, addressing modes, operand forms and table entries. -/

namespace Sys2Proof

/-- The 56 documented mnemonics (R2, R105). -/
inductive Mnemonic where
  | adc | and | asl | bcc | bcs | beq | bit | bmi
  | bne | bpl | brk | bvc | bvs | clc | cld | cli
  | clv | cmp | cpx | cpy | dec | dex | dey | eor
  | inc | inx | iny | jmp | jsr | lda | ldx | ldy
  | lsr | nop | ora | pha | php | pla | plp | rol
  | ror | rti | rts | sbc | sec | sed | sei | sta
  | stx | sty | tax | tay | tsx | txa | txs | tya
  deriving DecidableEq, Repr

/-- The thirteen addressing-mode tags (R101, R103). -/
inductive Mode where
  | implied | accumulator | immediate | zeroPage | zeroPageX | zeroPageY | relative
  | indexedIndirect | indirectIndexed | absolute | absoluteX | absoluteY | indirect
  deriving DecidableEq, Repr

/-- An operand form: a mode with the operand bytes the fetch unit has read for it (R102). -/
inductive Operand where
  /-- no operand -/
  | implied
  /-- BRK's padding byte: the Implied row that is two bytes long (R101, R297) -/
  | padded (pad : Byte)
  /-- the accumulator -/
  | accumulator
  /-- a literal byte -/
  | immediate (imm : Byte)
  /-- a zero-page address -/
  | zeroPage (zp : Byte)
  /-- a zero-page address indexed by X -/
  | zeroPageX (zp : Byte)
  /-- a zero-page address indexed by Y -/
  | zeroPageY (zp : Byte)
  /-- a signed branch offset -/
  | relative (off : Byte)
  /-- (zp,X) -/
  | indexedIndirect (zp : Byte)
  /-- (zp),Y -/
  | indirectIndexed (zp : Byte)
  /-- a 16-bit address -/
  | absolute (addr : Word)
  /-- a 16-bit address indexed by X -/
  | absoluteX (addr : Word)
  /-- a 16-bit address indexed by Y -/
  | absoluteY (addr : Word)
  /-- a 16-bit pointer, used by JMP alone -/
  | indirect (ptr : Word)
  deriving DecidableEq, Repr

/-- A `Documented` entry of the decoder's table (R104, R110). -/
structure Entry where
  /-- the instruction -/
  mnemonic : Mnemonic
  /-- its addressing mode -/
  mode : Mode
  /-- base_cycles -/
  cycles : Nat
  /-- page_penalty: one more cycle when the indexed address leaves the base page -/
  pagePenalty : Bool
  deriving DecidableEq, Repr

end Sys2Proof
end

