-- ==== Sys2Proof/Syntax.lean ====
section
/-! DEFINITION. The instructions: one constructor for each documented opcode of the opcode table (a mnemonic in
one addressing mode, R101 and R105), and one for its undocumented rows (R318), which share the mnemonic ILL. -/

namespace Sys2Proof

/-- An instruction with its operand bytes already assembled (R102): an `imm`, `zp`, `off` or `pad` byte, or an
`addr` or `ptr` word. -/
inductive Instr where
  /-- BRK Implied, 0x00 (R297) -/
  | brk (pad : Byte)
  /-- ORA IndexedIndirect, 0x01 (R233) -/
  | oraIndexedIndirect (zp : Byte)
  /-- ORA ZeroPage, 0x05 (R233) -/
  | oraZeroPage (zp : Byte)
  /-- ASL ZeroPage, 0x06 (R250) -/
  | aslZeroPage (zp : Byte)
  /-- PHP Implied, 0x08 (R281) -/
  | php
  /-- ORA Immediate, 0x09 (R233) -/
  | oraImmediate (imm : Byte)
  /-- ASL Accumulator, 0x0A (R250) -/
  | aslAccumulator
  /-- ORA Absolute, 0x0D (R233) -/
  | oraAbsolute (addr : Word)
  /-- ASL Absolute, 0x0E (R250) -/
  | aslAbsolute (addr : Word)
  /-- BPL Relative, 0x10 (R301) -/
  | bpl (off : Byte)
  /-- ORA IndirectIndexed, 0x11 (R233) -/
  | oraIndirectIndexed (zp : Byte)
  /-- ORA ZeroPageX, 0x15 (R233) -/
  | oraZeroPageX (zp : Byte)
  /-- ASL ZeroPageX, 0x16 (R250) -/
  | aslZeroPageX (zp : Byte)
  /-- CLC Implied, 0x18 (R310) -/
  | clc
  /-- ORA AbsoluteY, 0x19 (R233) -/
  | oraAbsoluteY (addr : Word)
  /-- ORA AbsoluteX, 0x1D (R233) -/
  | oraAbsoluteX (addr : Word)
  /-- ASL AbsoluteX, 0x1E (R250) -/
  | aslAbsoluteX (addr : Word)
  /-- JSR Absolute, 0x20 (R292) -/
  | jsr (addr : Word)
  /-- AND IndexedIndirect, 0x21 (R232) -/
  | andIndexedIndirect (zp : Byte)
  /-- BIT ZeroPage, 0x24 (R235) -/
  | bitZeroPage (zp : Byte)
  /-- AND ZeroPage, 0x25 (R232) -/
  | andZeroPage (zp : Byte)
  /-- ROL ZeroPage, 0x26 (R252) -/
  | rolZeroPage (zp : Byte)
  /-- PLP Implied, 0x28 (R283) -/
  | plp
  /-- AND Immediate, 0x29 (R232) -/
  | andImmediate (imm : Byte)
  /-- ROL Accumulator, 0x2A (R252) -/
  | rolAccumulator
  /-- BIT Absolute, 0x2C (R235) -/
  | bitAbsolute (addr : Word)
  /-- AND Absolute, 0x2D (R232) -/
  | andAbsolute (addr : Word)
  /-- ROL Absolute, 0x2E (R252) -/
  | rolAbsolute (addr : Word)
  /-- BMI Relative, 0x30 (R302) -/
  | bmi (off : Byte)
  /-- AND IndirectIndexed, 0x31 (R232) -/
  | andIndirectIndexed (zp : Byte)
  /-- AND ZeroPageX, 0x35 (R232) -/
  | andZeroPageX (zp : Byte)
  /-- ROL ZeroPageX, 0x36 (R252) -/
  | rolZeroPageX (zp : Byte)
  /-- SEC Implied, 0x38 (R311) -/
  | sec
  /-- AND AbsoluteY, 0x39 (R232) -/
  | andAbsoluteY (addr : Word)
  /-- AND AbsoluteX, 0x3D (R232) -/
  | andAbsoluteX (addr : Word)
  /-- ROL AbsoluteX, 0x3E (R252) -/
  | rolAbsoluteX (addr : Word)
  /-- RTI Implied, 0x40 (R296) -/
  | rti
  /-- EOR IndexedIndirect, 0x41 (R234) -/
  | eorIndexedIndirect (zp : Byte)
  /-- EOR ZeroPage, 0x45 (R234) -/
  | eorZeroPage (zp : Byte)
  /-- LSR ZeroPage, 0x46 (R251) -/
  | lsrZeroPage (zp : Byte)
  /-- PHA Implied, 0x48 (R280) -/
  | pha
  /-- EOR Immediate, 0x49 (R234) -/
  | eorImmediate (imm : Byte)
  /-- LSR Accumulator, 0x4A (R251) -/
  | lsrAccumulator
  /-- JMP Absolute, 0x4C (R290) -/
  | jmpAbsolute (addr : Word)
  /-- EOR Absolute, 0x4D (R234) -/
  | eorAbsolute (addr : Word)
  /-- LSR Absolute, 0x4E (R251) -/
  | lsrAbsolute (addr : Word)
  /-- BVC Relative, 0x50 (R303) -/
  | bvc (off : Byte)
  /-- EOR IndirectIndexed, 0x51 (R234) -/
  | eorIndirectIndexed (zp : Byte)
  /-- EOR ZeroPageX, 0x55 (R234) -/
  | eorZeroPageX (zp : Byte)
  /-- LSR ZeroPageX, 0x56 (R251) -/
  | lsrZeroPageX (zp : Byte)
  /-- CLI Implied, 0x58 (R312) -/
  | cli
  /-- EOR AbsoluteY, 0x59 (R234) -/
  | eorAbsoluteY (addr : Word)
  /-- EOR AbsoluteX, 0x5D (R234) -/
  | eorAbsoluteX (addr : Word)
  /-- LSR AbsoluteX, 0x5E (R251) -/
  | lsrAbsoluteX (addr : Word)
  /-- RTS Implied, 0x60 (R293) -/
  | rts
  /-- ADC IndexedIndirect, 0x61 (R230) -/
  | adcIndexedIndirect (zp : Byte)
  /-- ADC ZeroPage, 0x65 (R230) -/
  | adcZeroPage (zp : Byte)
  /-- ROR ZeroPage, 0x66 (R253) -/
  | rorZeroPage (zp : Byte)
  /-- PLA Implied, 0x68 (R282) -/
  | pla
  /-- ADC Immediate, 0x69 (R230) -/
  | adcImmediate (imm : Byte)
  /-- ROR Accumulator, 0x6A (R253) -/
  | rorAccumulator
  /-- JMP Indirect, 0x6C (R290) -/
  | jmpIndirect (ptr : Word)
  /-- ADC Absolute, 0x6D (R230) -/
  | adcAbsolute (addr : Word)
  /-- ROR Absolute, 0x6E (R253) -/
  | rorAbsolute (addr : Word)
  /-- BVS Relative, 0x70 (R304) -/
  | bvs (off : Byte)
  /-- ADC IndirectIndexed, 0x71 (R230) -/
  | adcIndirectIndexed (zp : Byte)
  /-- ADC ZeroPageX, 0x75 (R230) -/
  | adcZeroPageX (zp : Byte)
  /-- ROR ZeroPageX, 0x76 (R253) -/
  | rorZeroPageX (zp : Byte)
  /-- SEI Implied, 0x78 (R313) -/
  | sei
  /-- ADC AbsoluteY, 0x79 (R230) -/
  | adcAbsoluteY (addr : Word)
  /-- ADC AbsoluteX, 0x7D (R230) -/
  | adcAbsoluteX (addr : Word)
  /-- ROR AbsoluteX, 0x7E (R253) -/
  | rorAbsoluteX (addr : Word)
  /-- STA IndexedIndirect, 0x81 (R213) -/
  | staIndexedIndirect (zp : Byte)
  /-- STY ZeroPage, 0x84 (R215) -/
  | styZeroPage (zp : Byte)
  /-- STA ZeroPage, 0x85 (R213) -/
  | staZeroPage (zp : Byte)
  /-- STX ZeroPage, 0x86 (R214) -/
  | stxZeroPage (zp : Byte)
  /-- DEY Implied, 0x88 (R275) -/
  | dey
  /-- TXA Implied, 0x8A (R218) -/
  | txa
  /-- STY Absolute, 0x8C (R215) -/
  | styAbsolute (addr : Word)
  /-- STA Absolute, 0x8D (R213) -/
  | staAbsolute (addr : Word)
  /-- STX Absolute, 0x8E (R214) -/
  | stxAbsolute (addr : Word)
  /-- BCC Relative, 0x90 (R305) -/
  | bcc (off : Byte)
  /-- STA IndirectIndexed, 0x91 (R213) -/
  | staIndirectIndexed (zp : Byte)
  /-- STY ZeroPageX, 0x94 (R215) -/
  | styZeroPageX (zp : Byte)
  /-- STA ZeroPageX, 0x95 (R213) -/
  | staZeroPageX (zp : Byte)
  /-- STX ZeroPageY, 0x96 (R214) -/
  | stxZeroPageY (zp : Byte)
  /-- TYA Implied, 0x98 (R219) -/
  | tya
  /-- STA AbsoluteY, 0x99 (R213) -/
  | staAbsoluteY (addr : Word)
  /-- TXS Implied, 0x9A (R221) -/
  | txs
  /-- STA AbsoluteX, 0x9D (R213) -/
  | staAbsoluteX (addr : Word)
  /-- LDY Immediate, 0xA0 (R212) -/
  | ldyImmediate (imm : Byte)
  /-- LDA IndexedIndirect, 0xA1 (R210) -/
  | ldaIndexedIndirect (zp : Byte)
  /-- LDX Immediate, 0xA2 (R211) -/
  | ldxImmediate (imm : Byte)
  /-- LDY ZeroPage, 0xA4 (R212) -/
  | ldyZeroPage (zp : Byte)
  /-- LDA ZeroPage, 0xA5 (R210) -/
  | ldaZeroPage (zp : Byte)
  /-- LDX ZeroPage, 0xA6 (R211) -/
  | ldxZeroPage (zp : Byte)
  /-- TAY Implied, 0xA8 (R217) -/
  | tay
  /-- LDA Immediate, 0xA9 (R210) -/
  | ldaImmediate (imm : Byte)
  /-- TAX Implied, 0xAA (R216) -/
  | tax
  /-- LDY Absolute, 0xAC (R212) -/
  | ldyAbsolute (addr : Word)
  /-- LDA Absolute, 0xAD (R210) -/
  | ldaAbsolute (addr : Word)
  /-- LDX Absolute, 0xAE (R211) -/
  | ldxAbsolute (addr : Word)
  /-- BCS Relative, 0xB0 (R306) -/
  | bcs (off : Byte)
  /-- LDA IndirectIndexed, 0xB1 (R210) -/
  | ldaIndirectIndexed (zp : Byte)
  /-- LDY ZeroPageX, 0xB4 (R212) -/
  | ldyZeroPageX (zp : Byte)
  /-- LDA ZeroPageX, 0xB5 (R210) -/
  | ldaZeroPageX (zp : Byte)
  /-- LDX ZeroPageY, 0xB6 (R211) -/
  | ldxZeroPageY (zp : Byte)
  /-- CLV Implied, 0xB8 (R314) -/
  | clv
  /-- LDA AbsoluteY, 0xB9 (R210) -/
  | ldaAbsoluteY (addr : Word)
  /-- TSX Implied, 0xBA (R220) -/
  | tsx
  /-- LDY AbsoluteX, 0xBC (R212) -/
  | ldyAbsoluteX (addr : Word)
  /-- LDA AbsoluteX, 0xBD (R210) -/
  | ldaAbsoluteX (addr : Word)
  /-- LDX AbsoluteY, 0xBE (R211) -/
  | ldxAbsoluteY (addr : Word)
  /-- CPY Immediate, 0xC0 (R262) -/
  | cpyImmediate (imm : Byte)
  /-- CMP IndexedIndirect, 0xC1 (R260) -/
  | cmpIndexedIndirect (zp : Byte)
  /-- CPY ZeroPage, 0xC4 (R262) -/
  | cpyZeroPage (zp : Byte)
  /-- CMP ZeroPage, 0xC5 (R260) -/
  | cmpZeroPage (zp : Byte)
  /-- DEC ZeroPage, 0xC6 (R271) -/
  | decZeroPage (zp : Byte)
  /-- INY Implied, 0xC8 (R273) -/
  | iny
  /-- CMP Immediate, 0xC9 (R260) -/
  | cmpImmediate (imm : Byte)
  /-- DEX Implied, 0xCA (R274) -/
  | dex
  /-- CPY Absolute, 0xCC (R262) -/
  | cpyAbsolute (addr : Word)
  /-- CMP Absolute, 0xCD (R260) -/
  | cmpAbsolute (addr : Word)
  /-- DEC Absolute, 0xCE (R271) -/
  | decAbsolute (addr : Word)
  /-- BNE Relative, 0xD0 (R307) -/
  | bne (off : Byte)
  /-- CMP IndirectIndexed, 0xD1 (R260) -/
  | cmpIndirectIndexed (zp : Byte)
  /-- CMP ZeroPageX, 0xD5 (R260) -/
  | cmpZeroPageX (zp : Byte)
  /-- DEC ZeroPageX, 0xD6 (R271) -/
  | decZeroPageX (zp : Byte)
  /-- CLD Implied, 0xD8 (R315) -/
  | cld
  /-- CMP AbsoluteY, 0xD9 (R260) -/
  | cmpAbsoluteY (addr : Word)
  /-- CMP AbsoluteX, 0xDD (R260) -/
  | cmpAbsoluteX (addr : Word)
  /-- DEC AbsoluteX, 0xDE (R271) -/
  | decAbsoluteX (addr : Word)
  /-- CPX Immediate, 0xE0 (R261) -/
  | cpxImmediate (imm : Byte)
  /-- SBC IndexedIndirect, 0xE1 (R231) -/
  | sbcIndexedIndirect (zp : Byte)
  /-- CPX ZeroPage, 0xE4 (R261) -/
  | cpxZeroPage (zp : Byte)
  /-- SBC ZeroPage, 0xE5 (R231) -/
  | sbcZeroPage (zp : Byte)
  /-- INC ZeroPage, 0xE6 (R270) -/
  | incZeroPage (zp : Byte)
  /-- INX Implied, 0xE8 (R272) -/
  | inx
  /-- SBC Immediate, 0xE9 (R231) -/
  | sbcImmediate (imm : Byte)
  /-- NOP Implied, 0xEA (R317) -/
  | nop
  /-- CPX Absolute, 0xEC (R261) -/
  | cpxAbsolute (addr : Word)
  /-- SBC Absolute, 0xED (R231) -/
  | sbcAbsolute (addr : Word)
  /-- INC Absolute, 0xEE (R270) -/
  | incAbsolute (addr : Word)
  /-- BEQ Relative, 0xF0 (R308) -/
  | beq (off : Byte)
  /-- SBC IndirectIndexed, 0xF1 (R231) -/
  | sbcIndirectIndexed (zp : Byte)
  /-- SBC ZeroPageX, 0xF5 (R231) -/
  | sbcZeroPageX (zp : Byte)
  /-- INC ZeroPageX, 0xF6 (R270) -/
  | incZeroPageX (zp : Byte)
  /-- SED Implied, 0xF8 (R316) -/
  | sed
  /-- SBC AbsoluteY, 0xF9 (R231) -/
  | sbcAbsoluteY (addr : Word)
  /-- SBC AbsoluteX, 0xFD (R231) -/
  | sbcAbsoluteX (addr : Word)
  /-- INC AbsoluteX, 0xFE (R270) -/
  | incAbsoluteX (addr : Word)
  /-- ILL, each of the 105 undocumented opcode values `op` (R107, R318) -/
  | ill (op : Byte)
  deriving DecidableEq, Repr

end Sys2Proof
end

