-- ==== Sys2Proof/WellFormed.lean ====
section
/-! DEFINITION. Which terms of `Instr` are instructions of the hardware. -/

namespace Sys2Proof

/-- The 105 opcode values with no documented instruction, as R107 lists them. -/
def undocumentedOpcodes : List Byte :=
  [0x02, 0x03, 0x04, 0x07, 0x0B, 0x0C, 0x0F, 0x12, 0x13, 0x14, 0x17, 0x1A, 0x1B, 0x1C, 0x1F] ++
  [0x22, 0x23, 0x27, 0x2B, 0x2F, 0x32, 0x33, 0x34, 0x37, 0x3A, 0x3B, 0x3C, 0x3F, 0x42, 0x43] ++
  [0x44, 0x47, 0x4B, 0x4F, 0x52, 0x53, 0x54, 0x57, 0x5A, 0x5B, 0x5C, 0x5F, 0x62, 0x63, 0x64] ++
  [0x67, 0x6B, 0x6F, 0x72, 0x73, 0x74, 0x77, 0x7A, 0x7B, 0x7C, 0x7F, 0x80, 0x82, 0x83, 0x87] ++
  [0x89, 0x8B, 0x8F, 0x92, 0x93, 0x97, 0x9B, 0x9C, 0x9E, 0x9F, 0xA3, 0xA7, 0xAB, 0xAF, 0xB2] ++
  [0xB3, 0xB7, 0xBB, 0xBF, 0xC2, 0xC3, 0xC7, 0xCB, 0xCF, 0xD2, 0xD3, 0xD4, 0xD7, 0xDA, 0xDB] ++
  [0xDC, 0xDF, 0xE2, 0xE3, 0xE7, 0xEB, 0xEF, 0xF2, 0xF3, 0xF4, 0xF7, 0xFA, 0xFB, 0xFC, 0xFF]

/-- Whether R107 lists the opcode value. -/
def isUndocumented (op : Byte) : Bool := undocumentedOpcodes.contains op

/-- An operand of the right width is always legal: R101 and R102 reserve no operand value. The one check is that
an `ill` term carries an undocumented opcode value (R318); `ill` of a documented value is no instruction. -/
def Instr.wellFormed (i : Instr) : Bool :=
  match i with
  | .brk _ => true
  | .oraIndexedIndirect _ => true
  | .oraZeroPage _ => true
  | .aslZeroPage _ => true
  | .php => true
  | .oraImmediate _ => true
  | .aslAccumulator => true
  | .oraAbsolute _ => true
  | .aslAbsolute _ => true
  | .bpl _ => true
  | .oraIndirectIndexed _ => true
  | .oraZeroPageX _ => true
  | .aslZeroPageX _ => true
  | .clc => true
  | .oraAbsoluteY _ => true
  | .oraAbsoluteX _ => true
  | .aslAbsoluteX _ => true
  | .jsr _ => true
  | .andIndexedIndirect _ => true
  | .bitZeroPage _ => true
  | .andZeroPage _ => true
  | .rolZeroPage _ => true
  | .plp => true
  | .andImmediate _ => true
  | .rolAccumulator => true
  | .bitAbsolute _ => true
  | .andAbsolute _ => true
  | .rolAbsolute _ => true
  | .bmi _ => true
  | .andIndirectIndexed _ => true
  | .andZeroPageX _ => true
  | .rolZeroPageX _ => true
  | .sec => true
  | .andAbsoluteY _ => true
  | .andAbsoluteX _ => true
  | .rolAbsoluteX _ => true
  | .rti => true
  | .eorIndexedIndirect _ => true
  | .eorZeroPage _ => true
  | .lsrZeroPage _ => true
  | .pha => true
  | .eorImmediate _ => true
  | .lsrAccumulator => true
  | .jmpAbsolute _ => true
  | .eorAbsolute _ => true
  | .lsrAbsolute _ => true
  | .bvc _ => true
  | .eorIndirectIndexed _ => true
  | .eorZeroPageX _ => true
  | .lsrZeroPageX _ => true
  | .cli => true
  | .eorAbsoluteY _ => true
  | .eorAbsoluteX _ => true
  | .lsrAbsoluteX _ => true
  | .rts => true
  | .adcIndexedIndirect _ => true
  | .adcZeroPage _ => true
  | .rorZeroPage _ => true
  | .pla => true
  | .adcImmediate _ => true
  | .rorAccumulator => true
  | .jmpIndirect _ => true
  | .adcAbsolute _ => true
  | .rorAbsolute _ => true
  | .bvs _ => true
  | .adcIndirectIndexed _ => true
  | .adcZeroPageX _ => true
  | .rorZeroPageX _ => true
  | .sei => true
  | .adcAbsoluteY _ => true
  | .adcAbsoluteX _ => true
  | .rorAbsoluteX _ => true
  | .staIndexedIndirect _ => true
  | .styZeroPage _ => true
  | .staZeroPage _ => true
  | .stxZeroPage _ => true
  | .dey => true
  | .txa => true
  | .styAbsolute _ => true
  | .staAbsolute _ => true
  | .stxAbsolute _ => true
  | .bcc _ => true
  | .staIndirectIndexed _ => true
  | .styZeroPageX _ => true
  | .staZeroPageX _ => true
  | .stxZeroPageY _ => true
  | .tya => true
  | .staAbsoluteY _ => true
  | .txs => true
  | .staAbsoluteX _ => true
  | .ldyImmediate _ => true
  | .ldaIndexedIndirect _ => true
  | .ldxImmediate _ => true
  | .ldyZeroPage _ => true
  | .ldaZeroPage _ => true
  | .ldxZeroPage _ => true
  | .tay => true
  | .ldaImmediate _ => true
  | .tax => true
  | .ldyAbsolute _ => true
  | .ldaAbsolute _ => true
  | .ldxAbsolute _ => true
  | .bcs _ => true
  | .ldaIndirectIndexed _ => true
  | .ldyZeroPageX _ => true
  | .ldaZeroPageX _ => true
  | .ldxZeroPageY _ => true
  | .clv => true
  | .ldaAbsoluteY _ => true
  | .tsx => true
  | .ldyAbsoluteX _ => true
  | .ldaAbsoluteX _ => true
  | .ldxAbsoluteY _ => true
  | .cpyImmediate _ => true
  | .cmpIndexedIndirect _ => true
  | .cpyZeroPage _ => true
  | .cmpZeroPage _ => true
  | .decZeroPage _ => true
  | .iny => true
  | .cmpImmediate _ => true
  | .dex => true
  | .cpyAbsolute _ => true
  | .cmpAbsolute _ => true
  | .decAbsolute _ => true
  | .bne _ => true
  | .cmpIndirectIndexed _ => true
  | .cmpZeroPageX _ => true
  | .decZeroPageX _ => true
  | .cld => true
  | .cmpAbsoluteY _ => true
  | .cmpAbsoluteX _ => true
  | .decAbsoluteX _ => true
  | .cpxImmediate _ => true
  | .sbcIndexedIndirect _ => true
  | .cpxZeroPage _ => true
  | .sbcZeroPage _ => true
  | .incZeroPage _ => true
  | .inx => true
  | .sbcImmediate _ => true
  | .nop => true
  | .cpxAbsolute _ => true
  | .sbcAbsolute _ => true
  | .incAbsolute _ => true
  | .beq _ => true
  | .sbcIndirectIndexed _ => true
  | .sbcZeroPageX _ => true
  | .incZeroPageX _ => true
  | .sed => true
  | .sbcAbsoluteY _ => true
  | .sbcAbsoluteX _ => true
  | .incAbsoluteX _ => true
  | .ill op => isUndocumented op

end Sys2Proof
end

