-- ==== Sys2Proof/Decode.lean ====
section
/-! DEFINITION. The decoder (6502_decoder, R104, R133), total on any bytes, and the encoder of the same tables. -/

namespace Sys2Proof

/-- A row of the opcode map: a documented entry. -/
def doc (mnemonic : Mnemonic) (mode : Mode) (cycles : Nat) (pagePenalty : Bool := false) : Option Entry :=
  some { mnemonic := mnemonic, mode := mode, cycles := cycles, pagePenalty := pagePenalty }

/-- Opcodes 0x00 to 0x0F of the map of R105, with the cycle columns of R110. -/
def opcodeRow0 : List (Option Entry) :=
  [doc .brk .implied 7, doc .ora .indexedIndirect 6, none, none, none, doc .ora .zeroPage 3,
   doc .asl .zeroPage 5, none, doc .php .implied 3, doc .ora .immediate 2, doc .asl .accumulator 2, none,
   none, doc .ora .absolute 4, doc .asl .absolute 6, none]

/-- Opcodes 0x10 to 0x1F of the map of R105, with the cycle columns of R110. -/
def opcodeRow1 : List (Option Entry) :=
  [doc .bpl .relative 2, doc .ora .indirectIndexed 5 true, none, none, none, doc .ora .zeroPageX 4,
   doc .asl .zeroPageX 6, none, doc .clc .implied 2, doc .ora .absoluteY 4 true, none, none, none,
   doc .ora .absoluteX 4 true, doc .asl .absoluteX 7, none]

/-- Opcodes 0x20 to 0x2F of the map of R105, with the cycle columns of R110. -/
def opcodeRow2 : List (Option Entry) :=
  [doc .jsr .absolute 6, doc .and .indexedIndirect 6, none, none, doc .bit .zeroPage 3,
   doc .and .zeroPage 3, doc .rol .zeroPage 5, none, doc .plp .implied 4, doc .and .immediate 2,
   doc .rol .accumulator 2, none, doc .bit .absolute 4, doc .and .absolute 4, doc .rol .absolute 6, none]

/-- Opcodes 0x30 to 0x3F of the map of R105, with the cycle columns of R110. -/
def opcodeRow3 : List (Option Entry) :=
  [doc .bmi .relative 2, doc .and .indirectIndexed 5 true, none, none, none, doc .and .zeroPageX 4,
   doc .rol .zeroPageX 6, none, doc .sec .implied 2, doc .and .absoluteY 4 true, none, none, none,
   doc .and .absoluteX 4 true, doc .rol .absoluteX 7, none]

/-- Opcodes 0x40 to 0x4F of the map of R105, with the cycle columns of R110. -/
def opcodeRow4 : List (Option Entry) :=
  [doc .rti .implied 6, doc .eor .indexedIndirect 6, none, none, none, doc .eor .zeroPage 3,
   doc .lsr .zeroPage 5, none, doc .pha .implied 3, doc .eor .immediate 2, doc .lsr .accumulator 2, none,
   doc .jmp .absolute 3, doc .eor .absolute 4, doc .lsr .absolute 6, none]

/-- Opcodes 0x50 to 0x5F of the map of R105, with the cycle columns of R110. -/
def opcodeRow5 : List (Option Entry) :=
  [doc .bvc .relative 2, doc .eor .indirectIndexed 5 true, none, none, none, doc .eor .zeroPageX 4,
   doc .lsr .zeroPageX 6, none, doc .cli .implied 2, doc .eor .absoluteY 4 true, none, none, none,
   doc .eor .absoluteX 4 true, doc .lsr .absoluteX 7, none]

/-- Opcodes 0x60 to 0x6F of the map of R105, with the cycle columns of R110. -/
def opcodeRow6 : List (Option Entry) :=
  [doc .rts .implied 6, doc .adc .indexedIndirect 6, none, none, none, doc .adc .zeroPage 3,
   doc .ror .zeroPage 5, none, doc .pla .implied 4, doc .adc .immediate 2, doc .ror .accumulator 2, none,
   doc .jmp .indirect 5, doc .adc .absolute 4, doc .ror .absolute 6, none]

/-- Opcodes 0x70 to 0x7F of the map of R105, with the cycle columns of R110. -/
def opcodeRow7 : List (Option Entry) :=
  [doc .bvs .relative 2, doc .adc .indirectIndexed 5 true, none, none, none, doc .adc .zeroPageX 4,
   doc .ror .zeroPageX 6, none, doc .sei .implied 2, doc .adc .absoluteY 4 true, none, none, none,
   doc .adc .absoluteX 4 true, doc .ror .absoluteX 7, none]

/-- Opcodes 0x80 to 0x8F of the map of R105, with the cycle columns of R110. -/
def opcodeRow8 : List (Option Entry) :=
  [none, doc .sta .indexedIndirect 6, none, none, doc .sty .zeroPage 3, doc .sta .zeroPage 3,
   doc .stx .zeroPage 3, none, doc .dey .implied 2, none, doc .txa .implied 2, none, doc .sty .absolute 4,
   doc .sta .absolute 4, doc .stx .absolute 4, none]

/-- Opcodes 0x90 to 0x9F of the map of R105, with the cycle columns of R110. -/
def opcodeRow9 : List (Option Entry) :=
  [doc .bcc .relative 2, doc .sta .indirectIndexed 6, none, none, doc .sty .zeroPageX 4,
   doc .sta .zeroPageX 4, doc .stx .zeroPageY 4, none, doc .tya .implied 2, doc .sta .absoluteY 5,
   doc .txs .implied 2, none, none, doc .sta .absoluteX 5, none, none]

/-- Opcodes 0xA0 to 0xAF of the map of R105, with the cycle columns of R110. -/
def opcodeRowA : List (Option Entry) :=
  [doc .ldy .immediate 2, doc .lda .indexedIndirect 6, doc .ldx .immediate 2, none, doc .ldy .zeroPage 3,
   doc .lda .zeroPage 3, doc .ldx .zeroPage 3, none, doc .tay .implied 2, doc .lda .immediate 2,
   doc .tax .implied 2, none, doc .ldy .absolute 4, doc .lda .absolute 4, doc .ldx .absolute 4, none]

/-- Opcodes 0xB0 to 0xBF of the map of R105, with the cycle columns of R110. -/
def opcodeRowB : List (Option Entry) :=
  [doc .bcs .relative 2, doc .lda .indirectIndexed 5 true, none, none, doc .ldy .zeroPageX 4,
   doc .lda .zeroPageX 4, doc .ldx .zeroPageY 4, none, doc .clv .implied 2, doc .lda .absoluteY 4 true,
   doc .tsx .implied 2, none, doc .ldy .absoluteX 4 true, doc .lda .absoluteX 4 true,
   doc .ldx .absoluteY 4 true, none]

/-- Opcodes 0xC0 to 0xCF of the map of R105, with the cycle columns of R110. -/
def opcodeRowC : List (Option Entry) :=
  [doc .cpy .immediate 2, doc .cmp .indexedIndirect 6, none, none, doc .cpy .zeroPage 3,
   doc .cmp .zeroPage 3, doc .dec .zeroPage 5, none, doc .iny .implied 2, doc .cmp .immediate 2,
   doc .dex .implied 2, none, doc .cpy .absolute 4, doc .cmp .absolute 4, doc .dec .absolute 6, none]

/-- Opcodes 0xD0 to 0xDF of the map of R105, with the cycle columns of R110. -/
def opcodeRowD : List (Option Entry) :=
  [doc .bne .relative 2, doc .cmp .indirectIndexed 5 true, none, none, none, doc .cmp .zeroPageX 4,
   doc .dec .zeroPageX 6, none, doc .cld .implied 2, doc .cmp .absoluteY 4 true, none, none, none,
   doc .cmp .absoluteX 4 true, doc .dec .absoluteX 7, none]

/-- Opcodes 0xE0 to 0xEF of the map of R105, with the cycle columns of R110. -/
def opcodeRowE : List (Option Entry) :=
  [doc .cpx .immediate 2, doc .sbc .indexedIndirect 6, none, none, doc .cpx .zeroPage 3,
   doc .sbc .zeroPage 3, doc .inc .zeroPage 5, none, doc .inx .implied 2, doc .sbc .immediate 2,
   doc .nop .implied 2, none, doc .cpx .absolute 4, doc .sbc .absolute 4, doc .inc .absolute 6, none]

/-- Opcodes 0xF0 to 0xFF of the map of R105, with the cycle columns of R110. -/
def opcodeRowF : List (Option Entry) :=
  [doc .beq .relative 2, doc .sbc .indirectIndexed 5 true, none, none, none, doc .sbc .zeroPageX 4,
   doc .inc .zeroPageX 6, none, doc .sed .implied 2, doc .sbc .absoluteY 4 true, none, none, none,
   doc .sbc .absoluteX 4 true, doc .inc .absoluteX 7, none]

/-- The fixed 256-entry table (R104, R105); `none` is an `Undocumented` entry (R107). -/
def opcodeTable : List (Option Entry) :=
  opcodeRow0 ++ opcodeRow1 ++ opcodeRow2 ++ opcodeRow3 ++ opcodeRow4 ++ opcodeRow5 ++ opcodeRow6 ++ opcodeRow7 ++
  opcodeRow8 ++ opcodeRow9 ++ opcodeRowA ++ opcodeRowB ++ opcodeRowC ++ opcodeRowD ++ opcodeRowE ++ opcodeRowF

/-- `decode(op)` as a table lookup (R133): total over 0x00 to 0xFF. -/
def entry (op : Byte) : Option Entry := (opcodeTable[op.toNat]?).join

/-- The number of operand bytes of a mode (R109). -/
def operandBytesOfMode (m : Mode) : Nat :=
  match m with
  | .implied | .accumulator => 0
  | .immediate | .zeroPage | .zeroPageX | .zeroPageY | .relative | .indexedIndirect | .indirectIndexed => 1
  | .absolute | .absoluteX | .absoluteY | .indirect => 2

/-- The number of operand bytes fetched after an opcode byte: by its mode, but one for BRK (its padding byte,
R101) and none after an undocumented opcode (R318). -/
def operandCount (op : Byte) : Nat :=
  match entry op with
  | none => 0
  | some e => if e.mnemonic = .brk then 1 else operandBytesOfMode e.mode

/-- The cycles a completed instruction step returns (R382): the table's base count, one more where the entry has
the page penalty and the resolver crossed a page, and a taken branch's `extra`. -/
def cyclesOf (op : Byte) (crossed : Bool) (extra : Nat) : Nat :=
  match entry op with
  | none => 0
  | some e => e.cycles + (if e.pagePenalty && crossed then 1 else 0) + extra

/-- The instruction of opcode byte `op` with operand bytes `b1` and `b2` (R102, R105); an operand byte the form
does not have is ignored. Every value the map leaves out is `ill` (R107). -/
def decodeBytes (op b1 b2 : Byte) : Instr :=
  match op.toNat with
  | 0x00 => .brk b1
  | 0x01 => .oraIndexedIndirect b1
  | 0x05 => .oraZeroPage b1
  | 0x06 => .aslZeroPage b1
  | 0x08 => .php
  | 0x09 => .oraImmediate b1
  | 0x0A => .aslAccumulator
  | 0x0D => .oraAbsolute (w16 b2 b1)
  | 0x0E => .aslAbsolute (w16 b2 b1)
  | 0x10 => .bpl b1
  | 0x11 => .oraIndirectIndexed b1
  | 0x15 => .oraZeroPageX b1
  | 0x16 => .aslZeroPageX b1
  | 0x18 => .clc
  | 0x19 => .oraAbsoluteY (w16 b2 b1)
  | 0x1D => .oraAbsoluteX (w16 b2 b1)
  | 0x1E => .aslAbsoluteX (w16 b2 b1)
  | 0x20 => .jsr (w16 b2 b1)
  | 0x21 => .andIndexedIndirect b1
  | 0x24 => .bitZeroPage b1
  | 0x25 => .andZeroPage b1
  | 0x26 => .rolZeroPage b1
  | 0x28 => .plp
  | 0x29 => .andImmediate b1
  | 0x2A => .rolAccumulator
  | 0x2C => .bitAbsolute (w16 b2 b1)
  | 0x2D => .andAbsolute (w16 b2 b1)
  | 0x2E => .rolAbsolute (w16 b2 b1)
  | 0x30 => .bmi b1
  | 0x31 => .andIndirectIndexed b1
  | 0x35 => .andZeroPageX b1
  | 0x36 => .rolZeroPageX b1
  | 0x38 => .sec
  | 0x39 => .andAbsoluteY (w16 b2 b1)
  | 0x3D => .andAbsoluteX (w16 b2 b1)
  | 0x3E => .rolAbsoluteX (w16 b2 b1)
  | 0x40 => .rti
  | 0x41 => .eorIndexedIndirect b1
  | 0x45 => .eorZeroPage b1
  | 0x46 => .lsrZeroPage b1
  | 0x48 => .pha
  | 0x49 => .eorImmediate b1
  | 0x4A => .lsrAccumulator
  | 0x4C => .jmpAbsolute (w16 b2 b1)
  | 0x4D => .eorAbsolute (w16 b2 b1)
  | 0x4E => .lsrAbsolute (w16 b2 b1)
  | 0x50 => .bvc b1
  | 0x51 => .eorIndirectIndexed b1
  | 0x55 => .eorZeroPageX b1
  | 0x56 => .lsrZeroPageX b1
  | 0x58 => .cli
  | 0x59 => .eorAbsoluteY (w16 b2 b1)
  | 0x5D => .eorAbsoluteX (w16 b2 b1)
  | 0x5E => .lsrAbsoluteX (w16 b2 b1)
  | 0x60 => .rts
  | 0x61 => .adcIndexedIndirect b1
  | 0x65 => .adcZeroPage b1
  | 0x66 => .rorZeroPage b1
  | 0x68 => .pla
  | 0x69 => .adcImmediate b1
  | 0x6A => .rorAccumulator
  | 0x6C => .jmpIndirect (w16 b2 b1)
  | 0x6D => .adcAbsolute (w16 b2 b1)
  | 0x6E => .rorAbsolute (w16 b2 b1)
  | 0x70 => .bvs b1
  | 0x71 => .adcIndirectIndexed b1
  | 0x75 => .adcZeroPageX b1
  | 0x76 => .rorZeroPageX b1
  | 0x78 => .sei
  | 0x79 => .adcAbsoluteY (w16 b2 b1)
  | 0x7D => .adcAbsoluteX (w16 b2 b1)
  | 0x7E => .rorAbsoluteX (w16 b2 b1)
  | 0x81 => .staIndexedIndirect b1
  | 0x84 => .styZeroPage b1
  | 0x85 => .staZeroPage b1
  | 0x86 => .stxZeroPage b1
  | 0x88 => .dey
  | 0x8A => .txa
  | 0x8C => .styAbsolute (w16 b2 b1)
  | 0x8D => .staAbsolute (w16 b2 b1)
  | 0x8E => .stxAbsolute (w16 b2 b1)
  | 0x90 => .bcc b1
  | 0x91 => .staIndirectIndexed b1
  | 0x94 => .styZeroPageX b1
  | 0x95 => .staZeroPageX b1
  | 0x96 => .stxZeroPageY b1
  | 0x98 => .tya
  | 0x99 => .staAbsoluteY (w16 b2 b1)
  | 0x9A => .txs
  | 0x9D => .staAbsoluteX (w16 b2 b1)
  | 0xA0 => .ldyImmediate b1
  | 0xA1 => .ldaIndexedIndirect b1
  | 0xA2 => .ldxImmediate b1
  | 0xA4 => .ldyZeroPage b1
  | 0xA5 => .ldaZeroPage b1
  | 0xA6 => .ldxZeroPage b1
  | 0xA8 => .tay
  | 0xA9 => .ldaImmediate b1
  | 0xAA => .tax
  | 0xAC => .ldyAbsolute (w16 b2 b1)
  | 0xAD => .ldaAbsolute (w16 b2 b1)
  | 0xAE => .ldxAbsolute (w16 b2 b1)
  | 0xB0 => .bcs b1
  | 0xB1 => .ldaIndirectIndexed b1
  | 0xB4 => .ldyZeroPageX b1
  | 0xB5 => .ldaZeroPageX b1
  | 0xB6 => .ldxZeroPageY b1
  | 0xB8 => .clv
  | 0xB9 => .ldaAbsoluteY (w16 b2 b1)
  | 0xBA => .tsx
  | 0xBC => .ldyAbsoluteX (w16 b2 b1)
  | 0xBD => .ldaAbsoluteX (w16 b2 b1)
  | 0xBE => .ldxAbsoluteY (w16 b2 b1)
  | 0xC0 => .cpyImmediate b1
  | 0xC1 => .cmpIndexedIndirect b1
  | 0xC4 => .cpyZeroPage b1
  | 0xC5 => .cmpZeroPage b1
  | 0xC6 => .decZeroPage b1
  | 0xC8 => .iny
  | 0xC9 => .cmpImmediate b1
  | 0xCA => .dex
  | 0xCC => .cpyAbsolute (w16 b2 b1)
  | 0xCD => .cmpAbsolute (w16 b2 b1)
  | 0xCE => .decAbsolute (w16 b2 b1)
  | 0xD0 => .bne b1
  | 0xD1 => .cmpIndirectIndexed b1
  | 0xD5 => .cmpZeroPageX b1
  | 0xD6 => .decZeroPageX b1
  | 0xD8 => .cld
  | 0xD9 => .cmpAbsoluteY (w16 b2 b1)
  | 0xDD => .cmpAbsoluteX (w16 b2 b1)
  | 0xDE => .decAbsoluteX (w16 b2 b1)
  | 0xE0 => .cpxImmediate b1
  | 0xE1 => .sbcIndexedIndirect b1
  | 0xE4 => .cpxZeroPage b1
  | 0xE5 => .sbcZeroPage b1
  | 0xE6 => .incZeroPage b1
  | 0xE8 => .inx
  | 0xE9 => .sbcImmediate b1
  | 0xEA => .nop
  | 0xEC => .cpxAbsolute (w16 b2 b1)
  | 0xED => .sbcAbsolute (w16 b2 b1)
  | 0xEE => .incAbsolute (w16 b2 b1)
  | 0xF0 => .beq b1
  | 0xF1 => .sbcIndirectIndexed b1
  | 0xF5 => .sbcZeroPageX b1
  | 0xF6 => .incZeroPageX b1
  | 0xF8 => .sed
  | 0xF9 => .sbcAbsoluteY (w16 b2 b1)
  | 0xFD => .sbcAbsoluteX (w16 b2 b1)
  | 0xFE => .incAbsoluteX (w16 b2 b1)
  | _ => .ill op

/-- Why a byte list is no instruction: the decoder rejects by name. -/
inductive DecodeError where
  /-- there is no opcode byte -/
  | empty
  /-- the opcode needs `need` operand bytes and only `have_` follow -/
  | truncated (op : Byte) (need have_ : Nat)
  deriving DecidableEq, Repr

/-- Read one instruction off the front of a byte list and return it with the rest. Every opcode value decodes
(R104); only a list that ends early is rejected. -/
def decode (bytes : List Byte) : Except DecodeError (Instr × List Byte) :=
  match bytes with
  | [] => .error .empty
  | op :: rest =>
    match operandCount op, rest with
    | 0, rest => .ok (decodeBytes op 0 0, rest)
    | 1, b1 :: rest => .ok (decodeBytes op b1 0, rest)
    | 2, b1 :: b2 :: rest => .ok (decodeBytes op b1 b2, rest)
    | need, rest => .error (.truncated op need rest.length)

/-- The opcode byte of an instruction (R105). -/
def Instr.opcode (i : Instr) : Byte :=
  match i with
  | .brk _ => 0x00
  | .oraIndexedIndirect _ => 0x01
  | .oraZeroPage _ => 0x05
  | .aslZeroPage _ => 0x06
  | .php => 0x08
  | .oraImmediate _ => 0x09
  | .aslAccumulator => 0x0A
  | .oraAbsolute _ => 0x0D
  | .aslAbsolute _ => 0x0E
  | .bpl _ => 0x10
  | .oraIndirectIndexed _ => 0x11
  | .oraZeroPageX _ => 0x15
  | .aslZeroPageX _ => 0x16
  | .clc => 0x18
  | .oraAbsoluteY _ => 0x19
  | .oraAbsoluteX _ => 0x1D
  | .aslAbsoluteX _ => 0x1E
  | .jsr _ => 0x20
  | .andIndexedIndirect _ => 0x21
  | .bitZeroPage _ => 0x24
  | .andZeroPage _ => 0x25
  | .rolZeroPage _ => 0x26
  | .plp => 0x28
  | .andImmediate _ => 0x29
  | .rolAccumulator => 0x2A
  | .bitAbsolute _ => 0x2C
  | .andAbsolute _ => 0x2D
  | .rolAbsolute _ => 0x2E
  | .bmi _ => 0x30
  | .andIndirectIndexed _ => 0x31
  | .andZeroPageX _ => 0x35
  | .rolZeroPageX _ => 0x36
  | .sec => 0x38
  | .andAbsoluteY _ => 0x39
  | .andAbsoluteX _ => 0x3D
  | .rolAbsoluteX _ => 0x3E
  | .rti => 0x40
  | .eorIndexedIndirect _ => 0x41
  | .eorZeroPage _ => 0x45
  | .lsrZeroPage _ => 0x46
  | .pha => 0x48
  | .eorImmediate _ => 0x49
  | .lsrAccumulator => 0x4A
  | .jmpAbsolute _ => 0x4C
  | .eorAbsolute _ => 0x4D
  | .lsrAbsolute _ => 0x4E
  | .bvc _ => 0x50
  | .eorIndirectIndexed _ => 0x51
  | .eorZeroPageX _ => 0x55
  | .lsrZeroPageX _ => 0x56
  | .cli => 0x58
  | .eorAbsoluteY _ => 0x59
  | .eorAbsoluteX _ => 0x5D
  | .lsrAbsoluteX _ => 0x5E
  | .rts => 0x60
  | .adcIndexedIndirect _ => 0x61
  | .adcZeroPage _ => 0x65
  | .rorZeroPage _ => 0x66
  | .pla => 0x68
  | .adcImmediate _ => 0x69
  | .rorAccumulator => 0x6A
  | .jmpIndirect _ => 0x6C
  | .adcAbsolute _ => 0x6D
  | .rorAbsolute _ => 0x6E
  | .bvs _ => 0x70
  | .adcIndirectIndexed _ => 0x71
  | .adcZeroPageX _ => 0x75
  | .rorZeroPageX _ => 0x76
  | .sei => 0x78
  | .adcAbsoluteY _ => 0x79
  | .adcAbsoluteX _ => 0x7D
  | .rorAbsoluteX _ => 0x7E
  | .staIndexedIndirect _ => 0x81
  | .styZeroPage _ => 0x84
  | .staZeroPage _ => 0x85
  | .stxZeroPage _ => 0x86
  | .dey => 0x88
  | .txa => 0x8A
  | .styAbsolute _ => 0x8C
  | .staAbsolute _ => 0x8D
  | .stxAbsolute _ => 0x8E
  | .bcc _ => 0x90
  | .staIndirectIndexed _ => 0x91
  | .styZeroPageX _ => 0x94
  | .staZeroPageX _ => 0x95
  | .stxZeroPageY _ => 0x96
  | .tya => 0x98
  | .staAbsoluteY _ => 0x99
  | .txs => 0x9A
  | .staAbsoluteX _ => 0x9D
  | .ldyImmediate _ => 0xA0
  | .ldaIndexedIndirect _ => 0xA1
  | .ldxImmediate _ => 0xA2
  | .ldyZeroPage _ => 0xA4
  | .ldaZeroPage _ => 0xA5
  | .ldxZeroPage _ => 0xA6
  | .tay => 0xA8
  | .ldaImmediate _ => 0xA9
  | .tax => 0xAA
  | .ldyAbsolute _ => 0xAC
  | .ldaAbsolute _ => 0xAD
  | .ldxAbsolute _ => 0xAE
  | .bcs _ => 0xB0
  | .ldaIndirectIndexed _ => 0xB1
  | .ldyZeroPageX _ => 0xB4
  | .ldaZeroPageX _ => 0xB5
  | .ldxZeroPageY _ => 0xB6
  | .clv => 0xB8
  | .ldaAbsoluteY _ => 0xB9
  | .tsx => 0xBA
  | .ldyAbsoluteX _ => 0xBC
  | .ldaAbsoluteX _ => 0xBD
  | .ldxAbsoluteY _ => 0xBE
  | .cpyImmediate _ => 0xC0
  | .cmpIndexedIndirect _ => 0xC1
  | .cpyZeroPage _ => 0xC4
  | .cmpZeroPage _ => 0xC5
  | .decZeroPage _ => 0xC6
  | .iny => 0xC8
  | .cmpImmediate _ => 0xC9
  | .dex => 0xCA
  | .cpyAbsolute _ => 0xCC
  | .cmpAbsolute _ => 0xCD
  | .decAbsolute _ => 0xCE
  | .bne _ => 0xD0
  | .cmpIndirectIndexed _ => 0xD1
  | .cmpZeroPageX _ => 0xD5
  | .decZeroPageX _ => 0xD6
  | .cld => 0xD8
  | .cmpAbsoluteY _ => 0xD9
  | .cmpAbsoluteX _ => 0xDD
  | .decAbsoluteX _ => 0xDE
  | .cpxImmediate _ => 0xE0
  | .sbcIndexedIndirect _ => 0xE1
  | .cpxZeroPage _ => 0xE4
  | .sbcZeroPage _ => 0xE5
  | .incZeroPage _ => 0xE6
  | .inx => 0xE8
  | .sbcImmediate _ => 0xE9
  | .nop => 0xEA
  | .cpxAbsolute _ => 0xEC
  | .sbcAbsolute _ => 0xED
  | .incAbsolute _ => 0xEE
  | .beq _ => 0xF0
  | .sbcIndirectIndexed _ => 0xF1
  | .sbcZeroPageX _ => 0xF5
  | .incZeroPageX _ => 0xF6
  | .sed => 0xF8
  | .sbcAbsoluteY _ => 0xF9
  | .sbcAbsoluteX _ => 0xFD
  | .incAbsoluteX _ => 0xFE
  | .ill op => op

/-- The operand form of an instruction (R101). An undocumented opcode has none (R318: no operand byte is fetched). -/
def Instr.operand (i : Instr) : Operand :=
  match i with
  | .brk pad => .padded pad
  | .oraIndexedIndirect zp => .indexedIndirect zp
  | .oraZeroPage zp => .zeroPage zp
  | .aslZeroPage zp => .zeroPage zp
  | .php => .implied
  | .oraImmediate imm => .immediate imm
  | .aslAccumulator => .accumulator
  | .oraAbsolute addr => .absolute addr
  | .aslAbsolute addr => .absolute addr
  | .bpl off => .relative off
  | .oraIndirectIndexed zp => .indirectIndexed zp
  | .oraZeroPageX zp => .zeroPageX zp
  | .aslZeroPageX zp => .zeroPageX zp
  | .clc => .implied
  | .oraAbsoluteY addr => .absoluteY addr
  | .oraAbsoluteX addr => .absoluteX addr
  | .aslAbsoluteX addr => .absoluteX addr
  | .jsr addr => .absolute addr
  | .andIndexedIndirect zp => .indexedIndirect zp
  | .bitZeroPage zp => .zeroPage zp
  | .andZeroPage zp => .zeroPage zp
  | .rolZeroPage zp => .zeroPage zp
  | .plp => .implied
  | .andImmediate imm => .immediate imm
  | .rolAccumulator => .accumulator
  | .bitAbsolute addr => .absolute addr
  | .andAbsolute addr => .absolute addr
  | .rolAbsolute addr => .absolute addr
  | .bmi off => .relative off
  | .andIndirectIndexed zp => .indirectIndexed zp
  | .andZeroPageX zp => .zeroPageX zp
  | .rolZeroPageX zp => .zeroPageX zp
  | .sec => .implied
  | .andAbsoluteY addr => .absoluteY addr
  | .andAbsoluteX addr => .absoluteX addr
  | .rolAbsoluteX addr => .absoluteX addr
  | .rti => .implied
  | .eorIndexedIndirect zp => .indexedIndirect zp
  | .eorZeroPage zp => .zeroPage zp
  | .lsrZeroPage zp => .zeroPage zp
  | .pha => .implied
  | .eorImmediate imm => .immediate imm
  | .lsrAccumulator => .accumulator
  | .jmpAbsolute addr => .absolute addr
  | .eorAbsolute addr => .absolute addr
  | .lsrAbsolute addr => .absolute addr
  | .bvc off => .relative off
  | .eorIndirectIndexed zp => .indirectIndexed zp
  | .eorZeroPageX zp => .zeroPageX zp
  | .lsrZeroPageX zp => .zeroPageX zp
  | .cli => .implied
  | .eorAbsoluteY addr => .absoluteY addr
  | .eorAbsoluteX addr => .absoluteX addr
  | .lsrAbsoluteX addr => .absoluteX addr
  | .rts => .implied
  | .adcIndexedIndirect zp => .indexedIndirect zp
  | .adcZeroPage zp => .zeroPage zp
  | .rorZeroPage zp => .zeroPage zp
  | .pla => .implied
  | .adcImmediate imm => .immediate imm
  | .rorAccumulator => .accumulator
  | .jmpIndirect ptr => .indirect ptr
  | .adcAbsolute addr => .absolute addr
  | .rorAbsolute addr => .absolute addr
  | .bvs off => .relative off
  | .adcIndirectIndexed zp => .indirectIndexed zp
  | .adcZeroPageX zp => .zeroPageX zp
  | .rorZeroPageX zp => .zeroPageX zp
  | .sei => .implied
  | .adcAbsoluteY addr => .absoluteY addr
  | .adcAbsoluteX addr => .absoluteX addr
  | .rorAbsoluteX addr => .absoluteX addr
  | .staIndexedIndirect zp => .indexedIndirect zp
  | .styZeroPage zp => .zeroPage zp
  | .staZeroPage zp => .zeroPage zp
  | .stxZeroPage zp => .zeroPage zp
  | .dey => .implied
  | .txa => .implied
  | .styAbsolute addr => .absolute addr
  | .staAbsolute addr => .absolute addr
  | .stxAbsolute addr => .absolute addr
  | .bcc off => .relative off
  | .staIndirectIndexed zp => .indirectIndexed zp
  | .styZeroPageX zp => .zeroPageX zp
  | .staZeroPageX zp => .zeroPageX zp
  | .stxZeroPageY zp => .zeroPageY zp
  | .tya => .implied
  | .staAbsoluteY addr => .absoluteY addr
  | .txs => .implied
  | .staAbsoluteX addr => .absoluteX addr
  | .ldyImmediate imm => .immediate imm
  | .ldaIndexedIndirect zp => .indexedIndirect zp
  | .ldxImmediate imm => .immediate imm
  | .ldyZeroPage zp => .zeroPage zp
  | .ldaZeroPage zp => .zeroPage zp
  | .ldxZeroPage zp => .zeroPage zp
  | .tay => .implied
  | .ldaImmediate imm => .immediate imm
  | .tax => .implied
  | .ldyAbsolute addr => .absolute addr
  | .ldaAbsolute addr => .absolute addr
  | .ldxAbsolute addr => .absolute addr
  | .bcs off => .relative off
  | .ldaIndirectIndexed zp => .indirectIndexed zp
  | .ldyZeroPageX zp => .zeroPageX zp
  | .ldaZeroPageX zp => .zeroPageX zp
  | .ldxZeroPageY zp => .zeroPageY zp
  | .clv => .implied
  | .ldaAbsoluteY addr => .absoluteY addr
  | .tsx => .implied
  | .ldyAbsoluteX addr => .absoluteX addr
  | .ldaAbsoluteX addr => .absoluteX addr
  | .ldxAbsoluteY addr => .absoluteY addr
  | .cpyImmediate imm => .immediate imm
  | .cmpIndexedIndirect zp => .indexedIndirect zp
  | .cpyZeroPage zp => .zeroPage zp
  | .cmpZeroPage zp => .zeroPage zp
  | .decZeroPage zp => .zeroPage zp
  | .iny => .implied
  | .cmpImmediate imm => .immediate imm
  | .dex => .implied
  | .cpyAbsolute addr => .absolute addr
  | .cmpAbsolute addr => .absolute addr
  | .decAbsolute addr => .absolute addr
  | .bne off => .relative off
  | .cmpIndirectIndexed zp => .indirectIndexed zp
  | .cmpZeroPageX zp => .zeroPageX zp
  | .decZeroPageX zp => .zeroPageX zp
  | .cld => .implied
  | .cmpAbsoluteY addr => .absoluteY addr
  | .cmpAbsoluteX addr => .absoluteX addr
  | .decAbsoluteX addr => .absoluteX addr
  | .cpxImmediate imm => .immediate imm
  | .sbcIndexedIndirect zp => .indexedIndirect zp
  | .cpxZeroPage zp => .zeroPage zp
  | .sbcZeroPage zp => .zeroPage zp
  | .incZeroPage zp => .zeroPage zp
  | .inx => .implied
  | .sbcImmediate imm => .immediate imm
  | .nop => .implied
  | .cpxAbsolute addr => .absolute addr
  | .sbcAbsolute addr => .absolute addr
  | .incAbsolute addr => .absolute addr
  | .beq off => .relative off
  | .sbcIndirectIndexed zp => .indirectIndexed zp
  | .sbcZeroPageX zp => .zeroPageX zp
  | .incZeroPageX zp => .zeroPageX zp
  | .sed => .implied
  | .sbcAbsoluteY addr => .absoluteY addr
  | .sbcAbsoluteX addr => .absoluteX addr
  | .incAbsoluteX addr => .absoluteX addr
  | .ill _ => .implied

/-- The mode tag of an operand form (R101). -/
def Operand.mode (o : Operand) : Mode :=
  match o with
  | .implied | .padded _ => .implied
  | .accumulator => .accumulator
  | .immediate _ => .immediate
  | .zeroPage _ => .zeroPage
  | .zeroPageX _ => .zeroPageX
  | .zeroPageY _ => .zeroPageY
  | .relative _ => .relative
  | .indexedIndirect _ => .indexedIndirect
  | .indirectIndexed _ => .indirectIndexed
  | .absolute _ => .absolute
  | .absoluteX _ => .absoluteX
  | .absoluteY _ => .absoluteY
  | .indirect _ => .indirect

/-- The operand bytes of a form in address order: a word's low byte first (R73, R102). -/
def Operand.bytes (o : Operand) : List Byte :=
  match o with
  | .implied | .accumulator => []
  | .padded b | .immediate b | .zeroPage b | .zeroPageX b | .zeroPageY b | .relative b
  | .indexedIndirect b | .indirectIndexed b => [b]
  | .absolute w | .absoluteX w | .absoluteY w | .indirect w => [loByte w, hiByte w]

/-- The length in bytes of an instruction with this operand form, the opcode byte included (R109). -/
def Operand.length (o : Operand) : Nat := 1 + o.bytes.length

/-- The bytes of an instruction (R100): its opcode byte and its operand bytes. -/
def encode (i : Instr) : List Byte := i.opcode :: i.operand.bytes

/-- The mnemonic of an instruction; `none` for an undocumented opcode. -/
def Instr.mnemonic (i : Instr) : Option Mnemonic := (entry i.opcode).map (·.mnemonic)

/-- The three bytes of an instruction given as the opcode table numbers its bits: byte `k` of the instruction is
bits `8k+7..8k` of `w`, and every bit from `nbits` up is 0 (R122). -/
def tableWordBytes (nbits w : Nat) : List Byte :=
  let v := w % 2 ^ nbits
  [BitVec.ofNat 8 v, BitVec.ofNat 8 (v / 0x100), BitVec.ofNat 8 (v / 0x10000)]

/-- What the decoder reads from the instruction `tableWordBytes` lays out. -/
def decodeTableWord (nbits w : Nat) : Option Instr :=
  match decode (tableWordBytes nbits w) with
  | .ok (i, _) => some i
  | .error _ => none

end Sys2Proof
end

