-- ==== Sys2Proof/Config.lean ====
section
/-! DEFINITION. The free values of the model: bytes the spec leaves as draws. -/

namespace Sys2Proof

/-- The places of a step (or of the host's reset call) that can draw a byte the spec leaves free:
one name for each kind of port read a step issues at most once (R90), and one for each of the three
stack bytes that `reset()` leaves unspecified (R372). -/
inductive Access where
  /-- the opcode fetch -/
  | opcode
  /-- the fetch of the first operand byte -/
  | operandLo
  /-- the fetch of the second operand byte -/
  | operandHi
  /-- the low byte of a pointer read by an indirect mode -/
  | pointerLo
  /-- the high byte of a pointer read by an indirect mode -/
  | pointerHi
  /-- the one data read of an instruction -/
  | data
  /-- a stack pull; the stack page lies in internal RAM, so this read never draws -/
  | stack
  /-- the low byte of an interrupt vector -/
  | vectorLo
  /-- the high byte of an interrupt vector -/
  | vectorHi
  /-- the stack byte at SP that `reset()` leaves unspecified -/
  | resetStack0
  /-- the stack byte at SP - 1 that `reset()` leaves unspecified -/
  | resetStack1
  /-- the stack byte at SP - 2 that `reset()` leaves unspecified -/
  | resetStack2
  deriving DecidableEq, Repr

/-- FREE VALUE (assumption log 3 and 4). The byte drawn at one access of one step: `freeByte n k` is
the draw of access `k` in the step whose draw counter is `n`. It has no body, so nothing can be proved of
its value: a statement that mentions it holds for every draw (R80, R372). -/
opaque Config.freeByte : Nat → Access → Byte

end Sys2Proof
end

