-- ==== Sys2Proof/Machine/Constants.lean ====
section
/-! DEFINITION. The implementation parameters the spec fixes (R9). -/

namespace Sys2Proof.Machine

/-- `STACK_PAGE`: the stack occupies 0x0100 to 0x01FF (R38, R84). -/
def stackPage : Byte := 0x01

/-- `VEC_NMI` (R84). -/
def vecNmi : Word := 0xFFFA

/-- `VEC_RESET` (R84). -/
def vecReset : Word := 0xFFFC

/-- `VEC_IRQ`, shared by IRQ and BRK (R84, R335). -/
def vecIrq : Word := 0xFFFE

/-- `SP_RESET` (R372). -/
def spReset : Byte := 0xFD

/-- `P_RESET`: I and bit 5 set, every other bit clear (R39, R372). -/
def pReset : Byte := 0x24

/-- `INTERRUPT_CYCLES`: what an interrupt sequence and `reset()` return (R338, R339, R372). -/
def interruptCycles : Nat := 7

/-- The first address a collaborator can answer: internal RAM below it is never attached (R10, R80). -/
def deviceBase : Nat := 0x2000

/-- The first address of the cartridge region (R81). -/
def cartBase : Nat := 0x4020

/-- The number of bytes of the cartridge region (R81, R371). -/
def cartSize : Nat := 0xBFE0

end Sys2Proof.Machine
end

