-- ==== Sys2Proof/Machine/State.lean ====
section
/-! DEFINITION. The state of the machine as plain data, the reasons a step can stop, and the state after reset. -/

namespace Sys2Proof.Machine

/-- The passive store behind the memory port: backing cells by key, keys strictly rising, no cell listed that
holds the byte an unlisted one reads as (Machine/Memory.lean gives the keys and that byte). -/
abbrev Memory := List Host.Cell

/-- A range of addresses, both ends included. -/
structure DeviceRange where
  /-- the first address -/
  first : Word
  /-- the last address -/
  last : Word
  deriving DecidableEq, Repr

/-- The parameter `Bus` (R10, R80): what answers at the device and cartridge regions. -/
inductive Bus where
  /-- the reference platform: every address is the passive store -/
  | passive
  /-- a collaborator answers at the addresses of these ranges that lie outside internal RAM -/
  | attached (d : List DeviceRange)
  deriving DecidableEq, Repr

/-- The fault kinds of R331. `illegalOpcode` and `resolverMisuse` leave a changed state (`halted` = 1), so a step
that raises one answers that NEXT state with the fault as its return value (assumption log 1); `halted` leaves
the state unchanged and ends the run. -/
inductive Fault where
  /-- Code 1: an undocumented opcode `op` was fetched at `pc0` (R318). Raised by `exec` of `ill`, recorded in
  `State.returned` of the next state. Safe: the run stops where some silicon would go on (R319). -/
  | illegalOpcode (op : Byte) (pc0 : Word)
  /-- Code 2: a step was asked of a halted core (R160, R331). Raised by `step`. Safe: the spec gives the same
  outcome, and nothing else happens. -/
  | halted (pc : Word)
  /-- Code 3: an address, operand or store was asked of a mode that has none (R148, R332). Recorded in
  `State.returned`; no instruction of the table reaches it. Safe. -/
  | resolverMisuse (mode : Mode)
  deriving DecidableEq, Repr

/-- Why the model would give an instruction no meaning. -/
inductive Refusal where
  /-- The instruction of this mnemonic has no meaning in the model. No arm of `exec` answers it: every
  constructor has its meaning. Safe. -/
  | notModelled (mnemonic : String)
  deriving DecidableEq, Repr

/-- What a host call returns (R353). -/
inductive Return where
  /-- no value: before any call, and after `request_irq()` and `request_nmi()` -/
  | nothing
  /-- "completed, n cycles" (R16) -/
  | cycles (n : Nat)
  /-- the fault outcome (R331) -/
  | fault (f : Fault)
  deriving DecidableEq, Repr

/-- The block's state tuple (R30), the platform's memory and bus parameter (R10, R81), and two fields of the
model's own: `draws` and `returned`. -/
structure State where
  /-- A, the accumulator (R33) -/
  a : Byte
  /-- X, index register (R34) -/
  x : Byte
  /-- Y, index register (R35) -/
  y : Byte
  /-- PC (R37) -/
  pc : Word
  /-- SP, an offset into the stack page (R38) -/
  sp : Byte
  /-- P, the status register, bits NV1BDIZC from 7 down (R39) -/
  p : Byte
  /-- nmi_pending (R50) -/
  nmiPending : Bool
  /-- irq_pending (R51) -/
  irqPending : Bool
  /-- irq_inhibit: the I value the next poll uses (R52) -/
  irqInhibit : Bool
  /-- halted (R53) -/
  halted : Bool
  /-- the backing cells of the address space (R81) -/
  mem : Memory
  /-- the parameter `Bus` of the platform (R80); no step changes it -/
  bus : Bus
  /-- MODEL'S OWN: how many steps and reset calls have drawn free values so far (assumption log 5) -/
  draws : Nat
  /-- MODEL'S OWN: what the last host call returned (R353, assumption log 6) -/
  returned : Return
  deriving DecidableEq, Repr

/-- The three outcomes of a step of this machine. -/
abbrev Result := Host.Outcome State Fault Refusal

/-- The machine right after the first `reset()`: the power-on state of R370 with the writes of R372, on the passive
platform with an all-zero cartridge image (assumption log 2), whose reset vector is 0x0000. Memory lists
nothing: the three stack bytes that `reset()` leaves free keep their power-on 0x00 here (assumption log 4). -/
def State.reset : State where
  a := 0x00
  x := 0x00
  y := 0x00
  pc := 0x0000
  sp := spReset
  p := pReset
  nmiPending := false
  irqPending := false
  irqInhibit := true
  halted := false
  mem := []
  bus := .passive
  draws := 0
  returned := .cycles interruptCycles

end Sys2Proof.Machine
end

