-- ==== Sys2Proof/Machine/Flags.lean ====
section
/-! DEFINITION. The register file's status port (R48) and the 6502_flag_updater (R190 to R192). -/

namespace Sys2Proof.Machine

/-- The closed flag enumeration (R48); bit 5 has no flag name. -/
inductive Flag where
  | N | V | B | D | I | Z | C
  deriving DecidableEq, Repr

/-- `mask(f)` (R48). -/
def Flag.mask (f : Flag) : Byte :=
  match f with
  | .N => 0x80
  | .V => 0x40
  | .B => 0x10
  | .D => 0x08
  | .I => 0x04
  | .Z => 0x02
  | .C => 0x01

/-- The flag's value in a status byte: `(p & mask(f)) != 0` (R48). -/
def flagOf (p : Byte) (f : Flag) : Bool := decide (p &&& f.mask ≠ 0)

/-- The status byte with one flag written; bit 5 is hardwired to 1 (R45, R48). -/
def withFlag (p : Byte) (f : Flag) (b : Bool) : Byte := (if b then p ||| f.mask else p &&& ~~~f.mask) ||| 0x20

/-- The status byte PLP and RTI make of a pulled byte `v` (R283, R296): N, V, D, I, Z, C from `v`, the stored B
kept, bit 5 set. -/
def pulledStatus (p v : Byte) : Byte := (v &&& 0xCF) ||| (p &&& 0x10) ||| 0x20

/-- The status byte PHP and BRK push: B and bit 5 set (R341). -/
def softwareStatus (p : Byte) : Byte := p ||| 0x30

/-- The status byte IRQ and NMI push: bit 5 set, B clear (R341). -/
def interruptStatus (p : Byte) : Byte := (p ||| 0x20) &&& 0xEF

/-- `get_flag(f)` (R48). -/
def State.flag (s : State) (f : Flag) : Bool := flagOf s.p f

/-- `set_P(v)`: bit 5 stays 1 (R45, R48). -/
def State.setP (s : State) (v : Byte) : State := { s with p := v ||| 0x20 }

/-- `set_flag(f, b)` (R48). -/
def State.setFlag (s : State) (f : Flag) (b : Bool) : State := { s with p := withFlag s.p f b }

/-- `set_zn(v)` (R191). -/
def State.setZN (s : State) (v : Byte) : State := (s.setFlag .Z (decide (v = 0))).setFlag .N (v.getLsbD 7)

end Sys2Proof.Machine
end

