-- ==== Sys2Proof/Machine/Memory.lean ====
section
/-! DEFINITION. The address map (R81), the passive store (R82, R85) and the memory port (R70, R80). -/

namespace Sys2Proof.Machine

/-- The regions of the reference platform (R81). -/
inductive Region where
  /-- internal RAM, 2 KiB, mirrored to 0x1FFF -/
  | ram
  /-- the PPU-equivalent bank, 8 bytes, mirrored to 0x3FFF -/
  | ppu
  /-- the APU/IO bank, 24 bytes -/
  | apu
  /-- the test bank, 8 bytes -/
  | test
  /-- the cartridge region -/
  | cart
  deriving DecidableEq, Repr

/-- The routing function of R81 and R82: the region of an address and its backing cell there. `a mod 0x800` is
`a & 0x07FF`, `a mod 8` is `a & 0x0007`. -/
def route (a : Word) : Region × Nat :=
  if a.toNat < 0x2000 then (.ram, a.toNat % 0x800)
  else if a.toNat < 0x4000 then (.ppu, a.toNat % 8)
  else if a.toNat < 0x4018 then (.apu, a.toNat - 0x4000)
  else if a.toNat < 0x4020 then (.test, a.toNat - 0x4018)
  else (.cart, a.toNat - cartBase)

/-- The first address of a region (R81). -/
def regionBase (r : Region) : Nat :=
  match r with
  | .ram => 0x0000
  | .ppu => 0x2000
  | .apu => 0x4000
  | .test => 0x4018
  | .cart => cartBase

/-- The number of backing bytes of a region (R81). -/
def regionSize (r : Region) : Nat :=
  match r with
  | .ram => 2048
  | .ppu => 8
  | .apu => 24
  | .test => 8
  | .cart => cartSize

/-- The key of the backing cell of an address: the lowest address that routes to that cell. -/
def cellKey (a : Word) : Nat := regionBase (route a).1 + (route a).2

/-- What an unlisted cell reads as: the address space is zero-initialized (R85, R371). -/
def Memory.blank : Byte := 0x00

/-- The byte of a cell. -/
def Memory.read (m : Memory) (k : Nat) : Byte :=
  match m with
  | [] => Memory.blank
  | (j, v) :: rest => if j = k then v else Memory.read rest k

/-- Store a byte in a cell, keeping the canonical form: writing the byte an unlisted cell reads as unlists the
cell. -/
def Memory.write (m : Memory) (k : Nat) (v : Byte) : Memory :=
  match m with
  | [] => if v = Memory.blank then [] else [(k, v)]
  | (j, w) :: rest =>
    if k < j then (if v = Memory.blank then (j, w) :: rest else (k, v) :: (j, w) :: rest)
    else if k = j then (if v = Memory.blank then rest else (k, v) :: rest)
    else (j, w) :: Memory.write rest k v

/-- Whether a number is the key of some backing cell. -/
def isCellKey (k : Nat) : Bool := decide (k < 0x10000) && decide (cellKey (BitVec.ofNat 16 k) = k)

/-- The canonical form from key `lo` upward. -/
def Memory.wfFrom (lo : Nat) (m : Memory) : Bool :=
  match m with
  | [] => true
  | (k, v) :: rest => decide (lo ≤ k) && isCellKey k && decide (v ≠ Memory.blank) && Memory.wfFrom (k + 1) rest

/-- The canonical form: keys strictly rising, each the key of a backing cell, and no cell listed at the byte an
unlisted one reads as. -/
def Memory.wf (m : Memory) : Bool := Memory.wfFrom 0 m

/-- The listed cells of a cartridge image, `n` bytes from image offset `k` on (R371). -/
def imageCells (image : Nat → Byte) (k n : Nat) : Memory :=
  match n with
  | 0 => []
  | n + 1 =>
    if image k = Memory.blank then imageCells image (k + 1) n
    else (cartBase + k, image k) :: imageCells image (k + 1) n

/-- Whether an address lies in a range. -/
def DeviceRange.holds (r : DeviceRange) (a : Word) : Bool := decide (r.first ≤ a) && decide (a ≤ r.last)

/-- Whether a collaborator answers at the address (R80): never in internal RAM, never on the passive platform. -/
def State.isDevice (s : State) (a : Word) : Bool :=
  match s.bus with
  | .passive => false
  | .attached d => decide (deviceBase ≤ a.toNat) && d.any (·.holds a)

/-- The byte the passive store holds at an address (R82). -/
def State.stored (s : State) (a : Word) : Byte := s.mem.read (cellKey a)

/-- `MemRead(a, 1)` (R70, R82), at access `k` of the step: the passive store's byte, or a draw at a device
address. -/
def State.memRead (s : State) (k : Access) (a : Word) : Byte :=
  if s.isDevice a then Config.freeByte s.draws k else s.stored a

/-- `MemWrite(a, 1, v)` (R70, R82): stored in the address's cell; a write to a device address does not reach the
passive store (R80). -/
def State.memWrite (s : State) (a : Word) (v : Byte) : State :=
  { s with mem := if s.isDevice a then s.mem else s.mem.write (cellKey a) v }

/-- `ReadWord(a)` (R76): the low byte at `a`, the high byte at `a + 1` modulo 65536. -/
def State.readWord (s : State) (kLo kHi : Access) (a : Word) : Word :=
  w16 (s.memRead kHi (a + 1)) (s.memRead kLo a)

end Sys2Proof.Machine
end

