-- ==== Sys2Proof/Machine/Ops.lean ====
section
/-! DEFINITION. The named operations: register writes, fetch, push and pull, taking an interrupt and returning from
one, ending a step, and the host's calls. -/

namespace Sys2Proof.Machine

/-- `set_A` (R48). -/
def State.setA (s : State) (v : Byte) : State := { s with a := v }

/-- `set_X` (R48). -/
def State.setX (s : State) (v : Byte) : State := { s with x := v }

/-- `set_Y` (R48). -/
def State.setY (s : State) (v : Byte) : State := { s with y := v }

/-- `set_SP` (R48). -/
def State.setSP (s : State) (v : Byte) : State := { s with sp := v }

/-- `set_PC` (R48). -/
def State.setPC (s : State) (v : Word) : State := { s with pc := v }

/-! ### Fetch -/

/-- PC past `n` fetched bytes: each fetch adds one modulo 65536 (R37, R130). -/
def State.advance (s : State) (n : Nat) : State := { s with pc := s.pc + BitVec.ofNat 16 n }

/-- `fetch()` (R130): the byte at PC, and the state with PC one further. -/
def State.fetch (s : State) (k : Access) : Byte × State := (s.memRead k s.pc, s.advance 1)

/-- The instruction at PC (R130, R131, R160): the opcode byte, then exactly the operand bytes its form has. -/
def fetchInstr (s : State) : Instr :=
  let o := s.fetch .opcode
  match operandCount o.1 with
  | 0 => decodeBytes o.1 0 0
  | 1 => decodeBytes o.1 (o.2.fetch .operandLo).1 0
  | _ =>
    let b := o.2.fetch .operandLo
    decodeBytes o.1 b.1 (b.2.fetch .operandHi).1

/-! ### Stack -/

/-- The address of a stack slot: `0x0100 + SP` (R38). -/
def stackAddr (sp : Byte) : Word := w16 stackPage sp

/-- `push(v)` (R150): write at SP, then decrement SP modulo 256. -/
def State.push (s : State) (v : Byte) : State := (s.memWrite (stackAddr s.sp) v).setSP (s.sp - 1)

/-- The state `pull()` leaves (R151): SP incremented modulo 256. -/
def State.pulled (s : State) : State := s.setSP (s.sp + 1)

/-- The byte `pull()` returns (R151): read at the incremented SP. -/
def State.top (s : State) : Byte := s.memRead .stack (stackAddr (s.sp + 1))

/-- Push a word, high byte first, so that its low byte lies at the lower address (R73). -/
def State.pushWord (s : State) (w : Word) : State := (s.push (hiByte w)).push (loByte w)

/-- The word that two pulls return, low byte first (R73). -/
def State.topWord (s : State) : Word := w16 s.pulled.top s.top

/-! ### Taking an interrupt and returning from one -/

/-- Enter a handler (R297, R340): push PC and the status byte `pushed`, set I, and load PC from the vector. Shared
by BRK, IRQ and NMI, which differ in `pushed` and in the vector. -/
def enterHandler (pushed : Byte) (vector : Word) (s : State) : State :=
  let s1 := ((s.pushWord s.pc).push pushed).setFlag .I true
  s1.setPC (s1.readWord .vectorLo .vectorHi vector)

/-- `interrupt_sequence(vector)` (R340). -/
def interruptSequence (vector : Word) (s : State) : State := enterHandler (interruptStatus s.p) vector s

/-- Return from a handler (R296): pull the status byte, then PC. -/
def returnFromHandler (s : State) : State :=
  let s1 := s.pulled.setP (pulledStatus s.p s.top)
  (s1.pulled.pulled).setPC s1.topWord

/-- The end of a step that took an interrupt: `irq_inhibit` is 1 and the step returns 7 cycles (R338, R339). -/
def State.finishInterrupt (s : State) : State :=
  { s with irqInhibit := true, draws := s.draws + 1, returned := .cycles interruptCycles }

/-- Taking NMI (R339). -/
def takeNmi (s : State) : State := (interruptSequence vecNmi { s with nmiPending := false }).finishInterrupt

/-- Taking IRQ (R338). -/
def takeIrq (s : State) : State := (interruptSequence vecIrq { s with irqPending := false }).finishInterrupt

/-! ### Ending a step -/

/-- The end of a completed instruction (R52, R160, R382): `irq_inhibit` takes the I that the instruction left, and
the step returns its cycle count. -/
def State.finish (s : State) (op : Byte) (crossed : Bool) (extra : Nat) : State :=
  { s with irqInhibit := s.flag .I, draws := s.draws + 1, returned := .cycles (cyclesOf op crossed extra) }

/-- The end of CLI, SEI and PLP (R52, R380): `irq_inhibit` takes the I from before the instruction. -/
def State.finishDelayed (s : State) (op : Byte) (before : Bool) : State :=
  { s.finish op false 0 with irqInhibit := before }

/-- The end of a step by a fault that halts the core (R318, R331): `halted` is 1 and the fault is what the step
returns (assumption log 1). -/
def State.halt (s : State) (f : Fault) : State :=
  { s with halted := true, draws := s.draws + 1, returned := .fault f }

/-! ### The poll -/

/-- What a step does, in the order of the poll (R160, R337). -/
inductive Event where
  /-- nothing: the core is halted -/
  | stuck
  /-- it takes NMI -/
  | nmi
  /-- it takes IRQ -/
  | irq
  /-- it executes one instruction -/
  | instruction
  deriving DecidableEq, Repr

/-- The poll at the start of a step (R337). -/
def State.poll (s : State) : Event :=
  if s.halted then .stuck
  else if s.nmiPending then .nmi
  else if s.irqPending && !s.irqInhibit then .irq
  else .instruction

/-! ### The host's calls -/

/-- `request_irq()` (R51, R353). -/
def requestIrq (s : State) : State := { s with irqPending := true, returned := .nothing }

/-- `request_nmi()` (R50, R353). -/
def requestNmi (s : State) : State := { s with nmiPending := true, returned := .nothing }

/-- The three stack bytes `reset()` leaves unspecified, each a free value (R372). -/
def drawResetStack (s : State) : State :=
  ((s.memWrite (stackAddr s.sp) (Config.freeByte s.draws .resetStack0)).memWrite
    (stackAddr (s.sp - 1)) (Config.freeByte s.draws .resetStack1)).memWrite
    (stackAddr (s.sp - 2)) (Config.freeByte s.draws .resetStack2)

/-- `reset()` (R372, R374): A, X and Y keep their values; it returns 7 cycles. -/
def resetCall (s : State) : State :=
  let s1 := drawResetStack s
  { s1 with
    sp := spReset
    p := pReset
    nmiPending := false
    irqPending := false
    irqInhibit := true
    halted := false
    pc := s1.readWord .vectorLo .vectorHi vecReset
    draws := s1.draws + 1
    returned := .cycles interruptCycles }

/-- The power-on state (R370, R371) of a platform with this bus and this cartridge image; image offset `k`, below
0xBFE0, is the byte at 0x4020 + `k`. -/
def powerOn (bus : Bus) (image : Nat → Byte) : State where
  a := 0x00
  x := 0x00
  y := 0x00
  pc := 0x0000
  sp := 0x00
  p := 0x20
  nmiPending := false
  irqPending := false
  irqInhibit := true
  halted := false
  mem := imageCells image 0 cartSize
  bus := bus
  draws := 0
  returned := .nothing

/-- The boot sequence's start (R375): the block is created with its image and then reset. -/
def boot (bus : Bus) (image : Nat → Byte) : State := resetCall (powerOn bus image)

/-- The state with these bytes placed where the next step fetches its instruction: in the cells at PC, PC + 1, …
(modulo 65536), the core running, no interrupt about to be taken, and, where a collaborator answers at one of
those addresses, the passive bus instead (assumption log 9). -/
def State.placeBytes (s : State) (bytes : List Byte) : State :=
  let addrs := (List.range bytes.length).map fun k => s.pc + BitVec.ofNat 16 k
  { s with
    halted := false
    nmiPending := false
    irqPending := s.irqPending && s.irqInhibit
    bus := if addrs.any s.isDevice then .passive else s.bus
    mem := (addrs.zip bytes).foldl (fun m c => m.write (cellKey c.1) c.2) s.mem }

end Sys2Proof.Machine
end

