-- ==== Sys2Proof/Machine/Operands.lean ====
section
/-! DEFINITION. The address_mode_resolver (R134 to R153) and the shapes an instruction has over it. -/

namespace Sys2Proof.Machine

/-- What `get_address` computes: the effective address, and the step-local `page_crossed` (R134, R135). -/
structure Resolved where
  /-- the effective address -/
  addr : Word
  /-- whether indexing left the page of the base (R146) -/
  crossed : Bool
  deriving DecidableEq, Repr

/-- A base indexed modulo 65536, with the page-cross test (R142, R145, R146). -/
def indexed (base : Word) (i : Byte) : Resolved :=
  { addr := base + zext16 i, crossed := decide (page base ≠ page (base + zext16 i)) }

/-- The pointer word at a zero-page address; its high byte's address wraps in the zero page (R144, R145). -/
def State.zeroPageWord (s : State) (zp : Byte) : Word :=
  w16 (s.memRead .pointerHi (zext16 (zp + 1))) (s.memRead .pointerLo (zext16 zp))

/-- The word at a pointer; its high byte is read from the pointer's own page (R143). -/
def State.pageWord (s : State) (ptr : Word) : Word :=
  w16 (s.memRead .pointerHi (page ptr ||| zext16 (loByte ptr + 1))) (s.memRead .pointerLo ptr)

/-- `get_address` (R140 to R145); the forms with no address answer their mode, a misuse (R148). -/
def getAddress (o : Operand) (s : State) : Except Mode Resolved :=
  match o with
  | .zeroPage zp => .ok { addr := zext16 zp, crossed := false }
  | .zeroPageX zp => .ok { addr := zext16 (zp + s.x), crossed := false }
  | .zeroPageY zp => .ok { addr := zext16 (zp + s.y), crossed := false }
  | .absolute addr => .ok { addr := addr, crossed := false }
  | .absoluteX addr => .ok (indexed addr s.x)
  | .absoluteY addr => .ok (indexed addr s.y)
  | .indirect ptr => .ok { addr := s.pageWord ptr, crossed := false }
  | .indexedIndirect zp => .ok { addr := s.zeroPageWord (zp + s.x), crossed := false }
  | .indirectIndexed zp => .ok (indexed (s.zeroPageWord zp) s.y)
  | .implied => .error .implied
  | .padded _ => .error .implied
  | .accumulator => .error .accumulator
  | .immediate _ => .error .immediate
  | .relative _ => .error .relative

/-- `read_operand` (R149): the value, and whether a page was crossed. -/
def readOperand (o : Operand) (s : State) : Except Mode (Byte × Bool) :=
  match o with
  | .accumulator => .ok (s.a, false)
  | .immediate imm => .ok (imm, false)
  | o =>
    match getAddress o s with
    | .ok ea => .ok (s.memRead .data ea.addr, ea.crossed)
    | .error m => .error m

/-- `write_operand` (R152): the state written, and whether a page was crossed. -/
def writeOperand (o : Operand) (v : Byte) (s : State) : Except Mode (State × Bool) :=
  match o with
  | .accumulator => .ok (s.setA v, false)
  | o =>
    match getAddress o s with
    | .ok ea => .ok (s.memWrite ea.addr v, ea.crossed)
    | .error m => .error m

/-- `rmw` (R153): the address is resolved once, for one read and one write. `f` computes the result and writes the
flags. -/
def readModifyWrite (o : Operand) (f : Byte → State → Byte × State) (s : State) : Except Mode (State × Bool) :=
  match o with
  | .accumulator => let r := f s.a s; .ok (r.2.setA r.1, false)
  | o =>
    match getAddress o s with
    | .ok ea => let r := f (s.memRead .data ea.addr) s; .ok (r.2.memWrite ea.addr r.1, ea.crossed)
    | .error m => .error m

/-- A step ended by a misuse of the resolver (R331, R332): the core halts. -/
def misuse (m : Mode) (s : State) : Result := .next (s.halt (.resolverMisuse m))

/-- An instruction that reads its operand (`M <- read_operand(mode)`) and then only changes registers. -/
def withValue (op : Byte) (o : Operand) (s : State) (f : Byte → State → State) : Result :=
  match readOperand o (s.advance o.length) with
  | .ok r => .next ((f r.1 (s.advance o.length)).finish op r.2 0)
  | .error m => misuse m (s.advance o.length)

/-- An instruction that stores `v` at its operand (`write_operand(mode, v)`). -/
def withStore (op : Byte) (o : Operand) (s : State) (v : Byte) : Result :=
  match writeOperand o v (s.advance o.length) with
  | .ok r => .next (r.1.finish op r.2 0)
  | .error m => misuse m (s.advance o.length)

/-- An instruction that is `rmw(mode, f)`. -/
def withModify (op : Byte) (o : Operand) (s : State) (f : Byte → State → Byte × State) : Result :=
  match readModifyWrite o f (s.advance o.length) with
  | .ok r => .next (r.1.finish op r.2 0)
  | .error m => misuse m (s.advance o.length)

/-- An instruction with no operand: one byte, then its effect `f`. -/
def withNone (op : Byte) (s : State) (f : State → State) : Result := .next ((f (s.advance 1)).finish op false 0)

end Sys2Proof.Machine
end

