-- ==== Sys2Proof/Machine/Arithmetic.lean ====
section
/-! DEFINITION. Arithmetic and logical instructions (43_arith_logic.md). -/

namespace Sys2Proof.Machine

/-- Write an addition's outputs (R230, R231): A, C, V, then Z and N. -/
def State.takeSum (s : State) (r : AluSum) : State := (((s.setA r.r).setFlag .C r.c).setFlag .V r.v).setZN r.r

/-- ADC (R230): add with carry; N, V, Z, C. -/
def adcOp (op : Byte) (o : Operand) (s : State) : Result :=
  withValue op o s fun v t => t.takeSum (aluAdd t.a v (t.flag .C))

/-- ADC IndexedIndirect, 0x61 (R230). -/
def execAdcIndexedIndirect (zp : Byte) (s : State) : Result := adcOp 0x61 (.indexedIndirect zp) s

/-- ADC ZeroPage, 0x65 (R230). -/
def execAdcZeroPage (zp : Byte) (s : State) : Result := adcOp 0x65 (.zeroPage zp) s

/-- ADC Immediate, 0x69 (R230). -/
def execAdcImmediate (imm : Byte) (s : State) : Result := adcOp 0x69 (.immediate imm) s

/-- ADC Absolute, 0x6D (R230). -/
def execAdcAbsolute (addr : Word) (s : State) : Result := adcOp 0x6D (.absolute addr) s

/-- ADC IndirectIndexed, 0x71 (R230). -/
def execAdcIndirectIndexed (zp : Byte) (s : State) : Result := adcOp 0x71 (.indirectIndexed zp) s

/-- ADC ZeroPageX, 0x75 (R230). -/
def execAdcZeroPageX (zp : Byte) (s : State) : Result := adcOp 0x75 (.zeroPageX zp) s

/-- ADC AbsoluteY, 0x79 (R230). -/
def execAdcAbsoluteY (addr : Word) (s : State) : Result := adcOp 0x79 (.absoluteY addr) s

/-- ADC AbsoluteX, 0x7D (R230). -/
def execAdcAbsoluteX (addr : Word) (s : State) : Result := adcOp 0x7D (.absoluteX addr) s

/-- SBC (R231): subtract with borrow; N, V, Z, C. -/
def sbcOp (op : Byte) (o : Operand) (s : State) : Result :=
  withValue op o s fun v t => t.takeSum (aluSub t.a v (t.flag .C))

/-- SBC IndexedIndirect, 0xE1 (R231). -/
def execSbcIndexedIndirect (zp : Byte) (s : State) : Result := sbcOp 0xE1 (.indexedIndirect zp) s

/-- SBC ZeroPage, 0xE5 (R231). -/
def execSbcZeroPage (zp : Byte) (s : State) : Result := sbcOp 0xE5 (.zeroPage zp) s

/-- SBC Immediate, 0xE9 (R231). -/
def execSbcImmediate (imm : Byte) (s : State) : Result := sbcOp 0xE9 (.immediate imm) s

/-- SBC Absolute, 0xED (R231). -/
def execSbcAbsolute (addr : Word) (s : State) : Result := sbcOp 0xED (.absolute addr) s

/-- SBC IndirectIndexed, 0xF1 (R231). -/
def execSbcIndirectIndexed (zp : Byte) (s : State) : Result := sbcOp 0xF1 (.indirectIndexed zp) s

/-- SBC ZeroPageX, 0xF5 (R231). -/
def execSbcZeroPageX (zp : Byte) (s : State) : Result := sbcOp 0xF5 (.zeroPageX zp) s

/-- SBC AbsoluteY, 0xF9 (R231). -/
def execSbcAbsoluteY (addr : Word) (s : State) : Result := sbcOp 0xF9 (.absoluteY addr) s

/-- SBC AbsoluteX, 0xFD (R231). -/
def execSbcAbsoluteX (addr : Word) (s : State) : Result := sbcOp 0xFD (.absoluteX addr) s

/-- AND (R232): bitwise AND into A; Z and N. -/
def andOp (op : Byte) (o : Operand) (s : State) : Result :=
  withValue op o s fun v t => (t.setA (aluAnd t.a v)).setZN (aluAnd t.a v)

/-- AND IndexedIndirect, 0x21 (R232). -/
def execAndIndexedIndirect (zp : Byte) (s : State) : Result := andOp 0x21 (.indexedIndirect zp) s

/-- AND ZeroPage, 0x25 (R232). -/
def execAndZeroPage (zp : Byte) (s : State) : Result := andOp 0x25 (.zeroPage zp) s

/-- AND Immediate, 0x29 (R232). -/
def execAndImmediate (imm : Byte) (s : State) : Result := andOp 0x29 (.immediate imm) s

/-- AND Absolute, 0x2D (R232). -/
def execAndAbsolute (addr : Word) (s : State) : Result := andOp 0x2D (.absolute addr) s

/-- AND IndirectIndexed, 0x31 (R232). -/
def execAndIndirectIndexed (zp : Byte) (s : State) : Result := andOp 0x31 (.indirectIndexed zp) s

/-- AND ZeroPageX, 0x35 (R232). -/
def execAndZeroPageX (zp : Byte) (s : State) : Result := andOp 0x35 (.zeroPageX zp) s

/-- AND AbsoluteY, 0x39 (R232). -/
def execAndAbsoluteY (addr : Word) (s : State) : Result := andOp 0x39 (.absoluteY addr) s

/-- AND AbsoluteX, 0x3D (R232). -/
def execAndAbsoluteX (addr : Word) (s : State) : Result := andOp 0x3D (.absoluteX addr) s

/-- ORA (R233): bitwise OR into A; Z and N. -/
def oraOp (op : Byte) (o : Operand) (s : State) : Result :=
  withValue op o s fun v t => (t.setA (aluOr t.a v)).setZN (aluOr t.a v)

/-- ORA IndexedIndirect, 0x01 (R233). -/
def execOraIndexedIndirect (zp : Byte) (s : State) : Result := oraOp 0x01 (.indexedIndirect zp) s

/-- ORA ZeroPage, 0x05 (R233). -/
def execOraZeroPage (zp : Byte) (s : State) : Result := oraOp 0x05 (.zeroPage zp) s

/-- ORA Immediate, 0x09 (R233). -/
def execOraImmediate (imm : Byte) (s : State) : Result := oraOp 0x09 (.immediate imm) s

/-- ORA Absolute, 0x0D (R233). -/
def execOraAbsolute (addr : Word) (s : State) : Result := oraOp 0x0D (.absolute addr) s

/-- ORA IndirectIndexed, 0x11 (R233). -/
def execOraIndirectIndexed (zp : Byte) (s : State) : Result := oraOp 0x11 (.indirectIndexed zp) s

/-- ORA ZeroPageX, 0x15 (R233). -/
def execOraZeroPageX (zp : Byte) (s : State) : Result := oraOp 0x15 (.zeroPageX zp) s

/-- ORA AbsoluteY, 0x19 (R233). -/
def execOraAbsoluteY (addr : Word) (s : State) : Result := oraOp 0x19 (.absoluteY addr) s

/-- ORA AbsoluteX, 0x1D (R233). -/
def execOraAbsoluteX (addr : Word) (s : State) : Result := oraOp 0x1D (.absoluteX addr) s

/-- EOR (R234): bitwise exclusive OR into A; Z and N. -/
def eorOp (op : Byte) (o : Operand) (s : State) : Result :=
  withValue op o s fun v t => (t.setA (aluXor t.a v)).setZN (aluXor t.a v)

/-- EOR IndexedIndirect, 0x41 (R234). -/
def execEorIndexedIndirect (zp : Byte) (s : State) : Result := eorOp 0x41 (.indexedIndirect zp) s

/-- EOR ZeroPage, 0x45 (R234). -/
def execEorZeroPage (zp : Byte) (s : State) : Result := eorOp 0x45 (.zeroPage zp) s

/-- EOR Immediate, 0x49 (R234). -/
def execEorImmediate (imm : Byte) (s : State) : Result := eorOp 0x49 (.immediate imm) s

/-- EOR Absolute, 0x4D (R234). -/
def execEorAbsolute (addr : Word) (s : State) : Result := eorOp 0x4D (.absolute addr) s

/-- EOR IndirectIndexed, 0x51 (R234). -/
def execEorIndirectIndexed (zp : Byte) (s : State) : Result := eorOp 0x51 (.indirectIndexed zp) s

/-- EOR ZeroPageX, 0x55 (R234). -/
def execEorZeroPageX (zp : Byte) (s : State) : Result := eorOp 0x55 (.zeroPageX zp) s

/-- EOR AbsoluteY, 0x59 (R234). -/
def execEorAbsoluteY (addr : Word) (s : State) : Result := eorOp 0x59 (.absoluteY addr) s

/-- EOR AbsoluteX, 0x5D (R234). -/
def execEorAbsoluteX (addr : Word) (s : State) : Result := eorOp 0x5D (.absoluteX addr) s

/-- BIT (R235): Z from A AND the byte, N and V from its bits 7 and 6. -/
def bitOp (op : Byte) (o : Operand) (s : State) : Result :=
  withValue op o s fun v t =>
    ((t.setFlag .Z (decide (aluAnd t.a v = 0))).setFlag .N (v.getLsbD 7)).setFlag .V (v.getLsbD 6)

/-- BIT ZeroPage, 0x24 (R235). -/
def execBitZeroPage (zp : Byte) (s : State) : Result := bitOp 0x24 (.zeroPage zp) s

/-- BIT Absolute, 0x2C (R235). -/
def execBitAbsolute (addr : Word) (s : State) : Result := bitOp 0x2C (.absolute addr) s

end Sys2Proof.Machine
end

