-- ==== Sys2Proof/Machine/Compare.lean ====
section
/-! DEFINITION. Comparisons (45_compare.md). -/

namespace Sys2Proof.Machine

/-- Compare a register's byte `r` with the operand (R260 to R262): C, Z and N from the difference. -/
def compareWith (op : Byte) (o : Operand) (s : State) (r : Byte) : Result :=
  withValue op o s fun v t => (t.setFlag .C (aluCmp r v).2).setZN (aluCmp r v).1

/-- CMP (R260): compare A with memory; no register changes. -/
def cmpOp (op : Byte) (o : Operand) (s : State) : Result :=
  compareWith op o s s.a

/-- CMP IndexedIndirect, 0xC1 (R260). -/
def execCmpIndexedIndirect (zp : Byte) (s : State) : Result := cmpOp 0xC1 (.indexedIndirect zp) s

/-- CMP ZeroPage, 0xC5 (R260). -/
def execCmpZeroPage (zp : Byte) (s : State) : Result := cmpOp 0xC5 (.zeroPage zp) s

/-- CMP Immediate, 0xC9 (R260). -/
def execCmpImmediate (imm : Byte) (s : State) : Result := cmpOp 0xC9 (.immediate imm) s

/-- CMP Absolute, 0xCD (R260). -/
def execCmpAbsolute (addr : Word) (s : State) : Result := cmpOp 0xCD (.absolute addr) s

/-- CMP IndirectIndexed, 0xD1 (R260). -/
def execCmpIndirectIndexed (zp : Byte) (s : State) : Result := cmpOp 0xD1 (.indirectIndexed zp) s

/-- CMP ZeroPageX, 0xD5 (R260). -/
def execCmpZeroPageX (zp : Byte) (s : State) : Result := cmpOp 0xD5 (.zeroPageX zp) s

/-- CMP AbsoluteY, 0xD9 (R260). -/
def execCmpAbsoluteY (addr : Word) (s : State) : Result := cmpOp 0xD9 (.absoluteY addr) s

/-- CMP AbsoluteX, 0xDD (R260). -/
def execCmpAbsoluteX (addr : Word) (s : State) : Result := cmpOp 0xDD (.absoluteX addr) s

/-- CPX (R261): compare X with memory; no register changes. -/
def cpxOp (op : Byte) (o : Operand) (s : State) : Result :=
  compareWith op o s s.x

/-- CPX Immediate, 0xE0 (R261). -/
def execCpxImmediate (imm : Byte) (s : State) : Result := cpxOp 0xE0 (.immediate imm) s

/-- CPX ZeroPage, 0xE4 (R261). -/
def execCpxZeroPage (zp : Byte) (s : State) : Result := cpxOp 0xE4 (.zeroPage zp) s

/-- CPX Absolute, 0xEC (R261). -/
def execCpxAbsolute (addr : Word) (s : State) : Result := cpxOp 0xEC (.absolute addr) s

/-- CPY (R262): compare Y with memory; no register changes. -/
def cpyOp (op : Byte) (o : Operand) (s : State) : Result :=
  compareWith op o s s.y

/-- CPY Immediate, 0xC0 (R262). -/
def execCpyImmediate (imm : Byte) (s : State) : Result := cpyOp 0xC0 (.immediate imm) s

/-- CPY ZeroPage, 0xC4 (R262). -/
def execCpyZeroPage (zp : Byte) (s : State) : Result := cpyOp 0xC4 (.zeroPage zp) s

/-- CPY Absolute, 0xCC (R262). -/
def execCpyAbsolute (addr : Word) (s : State) : Result := cpyOp 0xCC (.absolute addr) s

end Sys2Proof.Machine
end

