-- ==== Sys2Proof/Machine/ControlFlow.lean ====
section
/-! DEFINITION. Jumps, subroutines, BRK, RTI and branches (48_control_flow.md). -/

namespace Sys2Proof.Machine

/-- JMP (R290): PC takes the effective address. -/
def jmpOp (op : Byte) (o : Operand) (s : State) : Result :=
  match getAddress o (s.advance o.length) with
  | .ok ea => .next (((s.advance o.length).setPC ea.addr).finish op false 0)
  | .error m => misuse m (s.advance o.length)

/-- JMP Absolute, 0x4C (R290). -/
def execJmpAbsolute (addr : Word) (s : State) : Result := jmpOp 0x4C (.absolute addr) s

/-- JMP Indirect, 0x6C (R290). -/
def execJmpIndirect (ptr : Word) (s : State) : Result := jmpOp 0x6C (.indirect ptr) s

/-- JSR Absolute, 0x20 (R292): push the address of its own last byte, high byte first, then jump. -/
def execJsr (addr : Word) (s : State) : Result :=
  .next ((((s.advance 3).pushWord ((s.advance 3).pc - 1)).setPC addr).finish 0x20 false 0)

/-- RTS Implied, 0x60 (R293): pull a return address and add 1. -/
def execRts (s : State) : Result :=
  withNone 0x60 s fun t => (t.pulled.pulled).setPC (t.topWord + 1)

/-- RTI Implied, 0x40 (R296): return from a handler; the restored I masks IRQ at once. -/
def execRti (s : State) : Result :=
  withNone 0x40 s returnFromHandler

/-- BRK Implied, 0x00 (R297): enter the IRQ/BRK handler past the padding byte, whatever I holds. -/
def execBrk (_pad : Byte) (s : State) : Result :=
  .next ((enterHandler (softwareStatus s.p) vecIrq (s.advance 2)).finish 0x00 false 0)

/-- `branch(cond)` (R300): a taken branch adds the sign-extended offset to the address of the next instruction, and
costs one cycle more, two where the target lies in another page. -/
def branch (op : Byte) (off : Byte) (cond : Bool) (s : State) : Result :=
  let s1 := s.advance 2
  let target := s1.pc + sext16 off
  if cond then .next ((s1.setPC target).finish op false (if page target = page s1.pc then 1 else 2))
  else .next (s1.finish op false 0)

/-- BPL Relative, 0x10 (R301): branch if N is clear. -/
def execBpl (off : Byte) (s : State) : Result :=
  branch 0x10 off (!s.flag .N) s

/-- BMI Relative, 0x30 (R302): branch if N is set. -/
def execBmi (off : Byte) (s : State) : Result :=
  branch 0x30 off (s.flag .N) s

/-- BVC Relative, 0x50 (R303): branch if V is clear. -/
def execBvc (off : Byte) (s : State) : Result :=
  branch 0x50 off (!s.flag .V) s

/-- BVS Relative, 0x70 (R304): branch if V is set. -/
def execBvs (off : Byte) (s : State) : Result :=
  branch 0x70 off (s.flag .V) s

/-- BCC Relative, 0x90 (R305): branch if C is clear. -/
def execBcc (off : Byte) (s : State) : Result :=
  branch 0x90 off (!s.flag .C) s

/-- BCS Relative, 0xB0 (R306): branch if C is set. -/
def execBcs (off : Byte) (s : State) : Result :=
  branch 0xB0 off (s.flag .C) s

/-- BNE Relative, 0xD0 (R307): branch if Z is clear. -/
def execBne (off : Byte) (s : State) : Result :=
  branch 0xD0 off (!s.flag .Z) s

/-- BEQ Relative, 0xF0 (R308): branch if Z is set. -/
def execBeq (off : Byte) (s : State) : Result :=
  branch 0xF0 off (s.flag .Z) s

end Sys2Proof.Machine
end

