-- ==== Sys2Proof/Machine/DataTransfer.lean ====
section
/-! DEFINITION. Loads, stores and register transfers (42_data_transfer.md). -/

namespace Sys2Proof.Machine

/-- LDA (R210): load A; Z and N from the byte. -/
def ldaOp (op : Byte) (o : Operand) (s : State) : Result :=
  withValue op o s fun v t => (t.setA v).setZN v

/-- LDA IndexedIndirect, 0xA1 (R210). -/
def execLdaIndexedIndirect (zp : Byte) (s : State) : Result := ldaOp 0xA1 (.indexedIndirect zp) s

/-- LDA ZeroPage, 0xA5 (R210). -/
def execLdaZeroPage (zp : Byte) (s : State) : Result := ldaOp 0xA5 (.zeroPage zp) s

/-- LDA Immediate, 0xA9 (R210). -/
def execLdaImmediate (imm : Byte) (s : State) : Result := ldaOp 0xA9 (.immediate imm) s

/-- LDA Absolute, 0xAD (R210). -/
def execLdaAbsolute (addr : Word) (s : State) : Result := ldaOp 0xAD (.absolute addr) s

/-- LDA IndirectIndexed, 0xB1 (R210). -/
def execLdaIndirectIndexed (zp : Byte) (s : State) : Result := ldaOp 0xB1 (.indirectIndexed zp) s

/-- LDA ZeroPageX, 0xB5 (R210). -/
def execLdaZeroPageX (zp : Byte) (s : State) : Result := ldaOp 0xB5 (.zeroPageX zp) s

/-- LDA AbsoluteY, 0xB9 (R210). -/
def execLdaAbsoluteY (addr : Word) (s : State) : Result := ldaOp 0xB9 (.absoluteY addr) s

/-- LDA AbsoluteX, 0xBD (R210). -/
def execLdaAbsoluteX (addr : Word) (s : State) : Result := ldaOp 0xBD (.absoluteX addr) s

/-- LDX (R211): load X; Z and N from the byte. -/
def ldxOp (op : Byte) (o : Operand) (s : State) : Result :=
  withValue op o s fun v t => (t.setX v).setZN v

/-- LDX Immediate, 0xA2 (R211). -/
def execLdxImmediate (imm : Byte) (s : State) : Result := ldxOp 0xA2 (.immediate imm) s

/-- LDX ZeroPage, 0xA6 (R211). -/
def execLdxZeroPage (zp : Byte) (s : State) : Result := ldxOp 0xA6 (.zeroPage zp) s

/-- LDX Absolute, 0xAE (R211). -/
def execLdxAbsolute (addr : Word) (s : State) : Result := ldxOp 0xAE (.absolute addr) s

/-- LDX ZeroPageY, 0xB6 (R211). -/
def execLdxZeroPageY (zp : Byte) (s : State) : Result := ldxOp 0xB6 (.zeroPageY zp) s

/-- LDX AbsoluteY, 0xBE (R211). -/
def execLdxAbsoluteY (addr : Word) (s : State) : Result := ldxOp 0xBE (.absoluteY addr) s

/-- LDY (R212): load Y; Z and N from the byte. -/
def ldyOp (op : Byte) (o : Operand) (s : State) : Result :=
  withValue op o s fun v t => (t.setY v).setZN v

/-- LDY Immediate, 0xA0 (R212). -/
def execLdyImmediate (imm : Byte) (s : State) : Result := ldyOp 0xA0 (.immediate imm) s

/-- LDY ZeroPage, 0xA4 (R212). -/
def execLdyZeroPage (zp : Byte) (s : State) : Result := ldyOp 0xA4 (.zeroPage zp) s

/-- LDY Absolute, 0xAC (R212). -/
def execLdyAbsolute (addr : Word) (s : State) : Result := ldyOp 0xAC (.absolute addr) s

/-- LDY ZeroPageX, 0xB4 (R212). -/
def execLdyZeroPageX (zp : Byte) (s : State) : Result := ldyOp 0xB4 (.zeroPageX zp) s

/-- LDY AbsoluteX, 0xBC (R212). -/
def execLdyAbsoluteX (addr : Word) (s : State) : Result := ldyOp 0xBC (.absoluteX addr) s

/-- STA (R213): store A; no flag. -/
def staOp (op : Byte) (o : Operand) (s : State) : Result :=
  withStore op o s s.a

/-- STA IndexedIndirect, 0x81 (R213). -/
def execStaIndexedIndirect (zp : Byte) (s : State) : Result := staOp 0x81 (.indexedIndirect zp) s

/-- STA ZeroPage, 0x85 (R213). -/
def execStaZeroPage (zp : Byte) (s : State) : Result := staOp 0x85 (.zeroPage zp) s

/-- STA Absolute, 0x8D (R213). -/
def execStaAbsolute (addr : Word) (s : State) : Result := staOp 0x8D (.absolute addr) s

/-- STA IndirectIndexed, 0x91 (R213). -/
def execStaIndirectIndexed (zp : Byte) (s : State) : Result := staOp 0x91 (.indirectIndexed zp) s

/-- STA ZeroPageX, 0x95 (R213). -/
def execStaZeroPageX (zp : Byte) (s : State) : Result := staOp 0x95 (.zeroPageX zp) s

/-- STA AbsoluteY, 0x99 (R213). -/
def execStaAbsoluteY (addr : Word) (s : State) : Result := staOp 0x99 (.absoluteY addr) s

/-- STA AbsoluteX, 0x9D (R213). -/
def execStaAbsoluteX (addr : Word) (s : State) : Result := staOp 0x9D (.absoluteX addr) s

/-- STX (R214): store X; no flag. -/
def stxOp (op : Byte) (o : Operand) (s : State) : Result :=
  withStore op o s s.x

/-- STX ZeroPage, 0x86 (R214). -/
def execStxZeroPage (zp : Byte) (s : State) : Result := stxOp 0x86 (.zeroPage zp) s

/-- STX Absolute, 0x8E (R214). -/
def execStxAbsolute (addr : Word) (s : State) : Result := stxOp 0x8E (.absolute addr) s

/-- STX ZeroPageY, 0x96 (R214). -/
def execStxZeroPageY (zp : Byte) (s : State) : Result := stxOp 0x96 (.zeroPageY zp) s

/-- STY (R215): store Y; no flag. -/
def styOp (op : Byte) (o : Operand) (s : State) : Result :=
  withStore op o s s.y

/-- STY ZeroPage, 0x84 (R215). -/
def execStyZeroPage (zp : Byte) (s : State) : Result := styOp 0x84 (.zeroPage zp) s

/-- STY Absolute, 0x8C (R215). -/
def execStyAbsolute (addr : Word) (s : State) : Result := styOp 0x8C (.absolute addr) s

/-- STY ZeroPageX, 0x94 (R215). -/
def execStyZeroPageX (zp : Byte) (s : State) : Result := styOp 0x94 (.zeroPageX zp) s

/-- TAX Implied, 0xAA (R216): X takes A; Z and N. -/
def execTax (s : State) : Result :=
  withNone 0xAA s fun t => (t.setX t.a).setZN t.a

/-- TAY Implied, 0xA8 (R217): Y takes A; Z and N. -/
def execTay (s : State) : Result :=
  withNone 0xA8 s fun t => (t.setY t.a).setZN t.a

/-- TXA Implied, 0x8A (R218): A takes X; Z and N. -/
def execTxa (s : State) : Result :=
  withNone 0x8A s fun t => (t.setA t.x).setZN t.x

/-- TYA Implied, 0x98 (R219): A takes Y; Z and N. -/
def execTya (s : State) : Result :=
  withNone 0x98 s fun t => (t.setA t.y).setZN t.y

/-- TSX Implied, 0xBA (R220): X takes SP; Z and N. -/
def execTsx (s : State) : Result :=
  withNone 0xBA s fun t => (t.setX t.sp).setZN t.sp

/-- TXS Implied, 0x9A (R221): SP takes X; no flag. -/
def execTxs (s : State) : Result :=
  withNone 0x9A s fun t => t.setSP t.x

end Sys2Proof.Machine
end

