-- ==== Sys2Proof/Machine/FlagOps.lean ====
section
/-! DEFINITION. Flag instructions, NOP and the undocumented opcodes (49_flags_nop_illegal.md). -/

namespace Sys2Proof.Machine

/-- CLC Implied, 0x18 (R310): C takes 0. -/
def execClc (s : State) : Result :=
  withNone 0x18 s fun t => t.setFlag .C false

/-- SEC Implied, 0x38 (R311): C takes 1. -/
def execSec (s : State) : Result :=
  withNone 0x38 s fun t => t.setFlag .C true

/-- CLI Implied, 0x58 (R312): I takes 0; IRQ masking follows one instruction later. -/
def execCli (s : State) : Result :=
  .next (((s.advance 1).setFlag .I false).finishDelayed 0x58 (s.flag .I))

/-- SEI Implied, 0x78 (R313): I takes 1; IRQ masking follows one instruction later. -/
def execSei (s : State) : Result :=
  .next (((s.advance 1).setFlag .I true).finishDelayed 0x78 (s.flag .I))

/-- CLV Implied, 0xB8 (R314): V takes 0. -/
def execClv (s : State) : Result :=
  withNone 0xB8 s fun t => t.setFlag .V false

/-- CLD Implied, 0xD8 (R315): D takes 0. -/
def execCld (s : State) : Result :=
  withNone 0xD8 s fun t => t.setFlag .D false

/-- SED Implied, 0xF8 (R316): D takes 1. -/
def execSed (s : State) : Result :=
  withNone 0xF8 s fun t => t.setFlag .D true

/-- NOP Implied, 0xEA (R317): nothing but the advance of PC. -/
def execNop (s : State) : Result :=
  withNone 0xEA s fun t => t

/-- ILL, an undocumented opcode (R318): PC stays at the opcode, the core halts, and the step returns the fault
(assumption log 1). -/
def execIll (op : Byte) (s : State) : Result := .next (s.halt (.illegalOpcode op s.pc))

end Sys2Proof.Machine
end

