-- ==== Sys2Proof/Machine/IncDec.lean ====
section
/-! DEFINITION. Increment and decrement (46_inc_dec.md). -/

namespace Sys2Proof.Machine

/-- The computation of INC or DEC (R270, R271): the result, with Z and N written. -/
def stepBy (g : Byte → Byte) (v : Byte) (s : State) : Byte × State := (g v, s.setZN (g v))

/-- INC (R270): increment memory; Z and N. -/
def incOp (op : Byte) (o : Operand) (s : State) : Result :=
  withModify op o s (stepBy aluInc)

/-- INC ZeroPage, 0xE6 (R270). -/
def execIncZeroPage (zp : Byte) (s : State) : Result := incOp 0xE6 (.zeroPage zp) s

/-- INC Absolute, 0xEE (R270). -/
def execIncAbsolute (addr : Word) (s : State) : Result := incOp 0xEE (.absolute addr) s

/-- INC ZeroPageX, 0xF6 (R270). -/
def execIncZeroPageX (zp : Byte) (s : State) : Result := incOp 0xF6 (.zeroPageX zp) s

/-- INC AbsoluteX, 0xFE (R270). -/
def execIncAbsoluteX (addr : Word) (s : State) : Result := incOp 0xFE (.absoluteX addr) s

/-- DEC (R271): decrement memory; Z and N. -/
def decOp (op : Byte) (o : Operand) (s : State) : Result :=
  withModify op o s (stepBy aluDec)

/-- DEC ZeroPage, 0xC6 (R271). -/
def execDecZeroPage (zp : Byte) (s : State) : Result := decOp 0xC6 (.zeroPage zp) s

/-- DEC Absolute, 0xCE (R271). -/
def execDecAbsolute (addr : Word) (s : State) : Result := decOp 0xCE (.absolute addr) s

/-- DEC ZeroPageX, 0xD6 (R271). -/
def execDecZeroPageX (zp : Byte) (s : State) : Result := decOp 0xD6 (.zeroPageX zp) s

/-- DEC AbsoluteX, 0xDE (R271). -/
def execDecAbsoluteX (addr : Word) (s : State) : Result := decOp 0xDE (.absoluteX addr) s

/-- INX Implied, 0xE8 (R272): increment X; Z and N. -/
def execInx (s : State) : Result :=
  withNone 0xE8 s fun t => (t.setX (aluInc t.x)).setZN (aluInc t.x)

/-- INY Implied, 0xC8 (R273): increment Y; Z and N. -/
def execIny (s : State) : Result :=
  withNone 0xC8 s fun t => (t.setY (aluInc t.y)).setZN (aluInc t.y)

/-- DEX Implied, 0xCA (R274): decrement X; Z and N. -/
def execDex (s : State) : Result :=
  withNone 0xCA s fun t => (t.setX (aluDec t.x)).setZN (aluDec t.x)

/-- DEY Implied, 0x88 (R275): decrement Y; Z and N. -/
def execDey (s : State) : Result :=
  withNone 0x88 s fun t => (t.setY (aluDec t.y)).setZN (aluDec t.y)

end Sys2Proof.Machine
end

