-- ==== Sys2Proof/Machine/Shift.lean ====
section
/-! DEFINITION. Shifts and rotates (44_shift_rotate.md). -/

namespace Sys2Proof.Machine

/-- The computation of a shift or rotate (R250 to R253): the result, with C, Z and N written. -/
def shiftBy (g : Byte → Bool → Byte × Bool) (v : Byte) (s : State) : Byte × State :=
  let r := g v (s.flag .C)
  (r.1, (s.setFlag .C r.2).setZN r.1)

/-- ASL (R250): arithmetic shift left. -/
def aslOp (op : Byte) (o : Operand) (s : State) : Result :=
  withModify op o s (shiftBy aluAsl)

/-- ASL ZeroPage, 0x06 (R250). -/
def execAslZeroPage (zp : Byte) (s : State) : Result := aslOp 0x06 (.zeroPage zp) s

/-- ASL Accumulator, 0x0A (R250). -/
def execAslAccumulator (s : State) : Result := aslOp 0x0A .accumulator s

/-- ASL Absolute, 0x0E (R250). -/
def execAslAbsolute (addr : Word) (s : State) : Result := aslOp 0x0E (.absolute addr) s

/-- ASL ZeroPageX, 0x16 (R250). -/
def execAslZeroPageX (zp : Byte) (s : State) : Result := aslOp 0x16 (.zeroPageX zp) s

/-- ASL AbsoluteX, 0x1E (R250). -/
def execAslAbsoluteX (addr : Word) (s : State) : Result := aslOp 0x1E (.absoluteX addr) s

/-- LSR (R251): logical shift right. -/
def lsrOp (op : Byte) (o : Operand) (s : State) : Result :=
  withModify op o s (shiftBy aluLsr)

/-- LSR ZeroPage, 0x46 (R251). -/
def execLsrZeroPage (zp : Byte) (s : State) : Result := lsrOp 0x46 (.zeroPage zp) s

/-- LSR Accumulator, 0x4A (R251). -/
def execLsrAccumulator (s : State) : Result := lsrOp 0x4A .accumulator s

/-- LSR Absolute, 0x4E (R251). -/
def execLsrAbsolute (addr : Word) (s : State) : Result := lsrOp 0x4E (.absolute addr) s

/-- LSR ZeroPageX, 0x56 (R251). -/
def execLsrZeroPageX (zp : Byte) (s : State) : Result := lsrOp 0x56 (.zeroPageX zp) s

/-- LSR AbsoluteX, 0x5E (R251). -/
def execLsrAbsoluteX (addr : Word) (s : State) : Result := lsrOp 0x5E (.absoluteX addr) s

/-- ROL (R252): rotate left through carry. -/
def rolOp (op : Byte) (o : Operand) (s : State) : Result :=
  withModify op o s (shiftBy aluRol)

/-- ROL ZeroPage, 0x26 (R252). -/
def execRolZeroPage (zp : Byte) (s : State) : Result := rolOp 0x26 (.zeroPage zp) s

/-- ROL Accumulator, 0x2A (R252). -/
def execRolAccumulator (s : State) : Result := rolOp 0x2A .accumulator s

/-- ROL Absolute, 0x2E (R252). -/
def execRolAbsolute (addr : Word) (s : State) : Result := rolOp 0x2E (.absolute addr) s

/-- ROL ZeroPageX, 0x36 (R252). -/
def execRolZeroPageX (zp : Byte) (s : State) : Result := rolOp 0x36 (.zeroPageX zp) s

/-- ROL AbsoluteX, 0x3E (R252). -/
def execRolAbsoluteX (addr : Word) (s : State) : Result := rolOp 0x3E (.absoluteX addr) s

/-- ROR (R253): rotate right through carry. -/
def rorOp (op : Byte) (o : Operand) (s : State) : Result :=
  withModify op o s (shiftBy aluRor)

/-- ROR ZeroPage, 0x66 (R253). -/
def execRorZeroPage (zp : Byte) (s : State) : Result := rorOp 0x66 (.zeroPage zp) s

/-- ROR Accumulator, 0x6A (R253). -/
def execRorAccumulator (s : State) : Result := rorOp 0x6A .accumulator s

/-- ROR Absolute, 0x6E (R253). -/
def execRorAbsolute (addr : Word) (s : State) : Result := rorOp 0x6E (.absolute addr) s

/-- ROR ZeroPageX, 0x76 (R253). -/
def execRorZeroPageX (zp : Byte) (s : State) : Result := rorOp 0x76 (.zeroPageX zp) s

/-- ROR AbsoluteX, 0x7E (R253). -/
def execRorAbsoluteX (addr : Word) (s : State) : Result := rorOp 0x7E (.absoluteX addr) s

end Sys2Proof.Machine
end

