-- ==== Sys2Proof/Machine/Stack.lean ====
section
/-! DEFINITION. Stack operations (47_stack.md). -/

namespace Sys2Proof.Machine

/-- PHA Implied, 0x48 (R280): push A. -/
def execPha (s : State) : Result :=
  withNone 0x48 s fun t => t.push t.a

/-- PHP Implied, 0x08 (R281): push P with B and bit 5 set; P itself is unchanged. -/
def execPhp (s : State) : Result :=
  withNone 0x08 s fun t => t.push (softwareStatus t.p)

/-- PLA Implied, 0x68 (R282): pull A; Z and N. -/
def execPla (s : State) : Result :=
  withNone 0x68 s fun t => (t.pulled.setA t.top).setZN t.top

/-- PLP Implied, 0x28 (R283): pull P, keeping the stored B; IRQ masking follows one instruction later. -/
def execPlp (s : State) : Result :=
  .next (((s.advance 1).pulled.setP (pulledStatus s.p (s.advance 1).top)).finishDelayed 0x28 (s.flag .I))

end Sys2Proof.Machine
end

