-- ==== Sys2Proof/Machine/Dispatch.lean ====
section
/-! DEFINITION. The dispatch: one arm for each constructor of `Instr`. -/

namespace Sys2Proof.Machine

def exec (i : Instr) (s : State) : Host.Outcome State Fault Refusal :=
  match i with
  | .brk pad => Sys2Proof.Machine.execBrk pad s
  | .oraIndexedIndirect zp => Sys2Proof.Machine.execOraIndexedIndirect zp s
  | .oraZeroPage zp => Sys2Proof.Machine.execOraZeroPage zp s
  | .aslZeroPage zp => Sys2Proof.Machine.execAslZeroPage zp s
  | .php => Sys2Proof.Machine.execPhp s
  | .oraImmediate imm => Sys2Proof.Machine.execOraImmediate imm s
  | .aslAccumulator => Sys2Proof.Machine.execAslAccumulator s
  | .oraAbsolute addr => Sys2Proof.Machine.execOraAbsolute addr s
  | .aslAbsolute addr => Sys2Proof.Machine.execAslAbsolute addr s
  | .bpl off => Sys2Proof.Machine.execBpl off s
  | .oraIndirectIndexed zp => Sys2Proof.Machine.execOraIndirectIndexed zp s
  | .oraZeroPageX zp => Sys2Proof.Machine.execOraZeroPageX zp s
  | .aslZeroPageX zp => Sys2Proof.Machine.execAslZeroPageX zp s
  | .clc => Sys2Proof.Machine.execClc s
  | .oraAbsoluteY addr => Sys2Proof.Machine.execOraAbsoluteY addr s
  | .oraAbsoluteX addr => Sys2Proof.Machine.execOraAbsoluteX addr s
  | .aslAbsoluteX addr => Sys2Proof.Machine.execAslAbsoluteX addr s
  | .jsr addr => Sys2Proof.Machine.execJsr addr s
  | .andIndexedIndirect zp => Sys2Proof.Machine.execAndIndexedIndirect zp s
  | .bitZeroPage zp => Sys2Proof.Machine.execBitZeroPage zp s
  | .andZeroPage zp => Sys2Proof.Machine.execAndZeroPage zp s
  | .rolZeroPage zp => Sys2Proof.Machine.execRolZeroPage zp s
  | .plp => Sys2Proof.Machine.execPlp s
  | .andImmediate imm => Sys2Proof.Machine.execAndImmediate imm s
  | .rolAccumulator => Sys2Proof.Machine.execRolAccumulator s
  | .bitAbsolute addr => Sys2Proof.Machine.execBitAbsolute addr s
  | .andAbsolute addr => Sys2Proof.Machine.execAndAbsolute addr s
  | .rolAbsolute addr => Sys2Proof.Machine.execRolAbsolute addr s
  | .bmi off => Sys2Proof.Machine.execBmi off s
  | .andIndirectIndexed zp => Sys2Proof.Machine.execAndIndirectIndexed zp s
  | .andZeroPageX zp => Sys2Proof.Machine.execAndZeroPageX zp s
  | .rolZeroPageX zp => Sys2Proof.Machine.execRolZeroPageX zp s
  | .sec => Sys2Proof.Machine.execSec s
  | .andAbsoluteY addr => Sys2Proof.Machine.execAndAbsoluteY addr s
  | .andAbsoluteX addr => Sys2Proof.Machine.execAndAbsoluteX addr s
  | .rolAbsoluteX addr => Sys2Proof.Machine.execRolAbsoluteX addr s
  | .rti => Sys2Proof.Machine.execRti s
  | .eorIndexedIndirect zp => Sys2Proof.Machine.execEorIndexedIndirect zp s
  | .eorZeroPage zp => Sys2Proof.Machine.execEorZeroPage zp s
  | .lsrZeroPage zp => Sys2Proof.Machine.execLsrZeroPage zp s
  | .pha => Sys2Proof.Machine.execPha s
  | .eorImmediate imm => Sys2Proof.Machine.execEorImmediate imm s
  | .lsrAccumulator => Sys2Proof.Machine.execLsrAccumulator s
  | .jmpAbsolute addr => Sys2Proof.Machine.execJmpAbsolute addr s
  | .eorAbsolute addr => Sys2Proof.Machine.execEorAbsolute addr s
  | .lsrAbsolute addr => Sys2Proof.Machine.execLsrAbsolute addr s
  | .bvc off => Sys2Proof.Machine.execBvc off s
  | .eorIndirectIndexed zp => Sys2Proof.Machine.execEorIndirectIndexed zp s
  | .eorZeroPageX zp => Sys2Proof.Machine.execEorZeroPageX zp s
  | .lsrZeroPageX zp => Sys2Proof.Machine.execLsrZeroPageX zp s
  | .cli => Sys2Proof.Machine.execCli s
  | .eorAbsoluteY addr => Sys2Proof.Machine.execEorAbsoluteY addr s
  | .eorAbsoluteX addr => Sys2Proof.Machine.execEorAbsoluteX addr s
  | .lsrAbsoluteX addr => Sys2Proof.Machine.execLsrAbsoluteX addr s
  | .rts => Sys2Proof.Machine.execRts s
  | .adcIndexedIndirect zp => Sys2Proof.Machine.execAdcIndexedIndirect zp s
  | .adcZeroPage zp => Sys2Proof.Machine.execAdcZeroPage zp s
  | .rorZeroPage zp => Sys2Proof.Machine.execRorZeroPage zp s
  | .pla => Sys2Proof.Machine.execPla s
  | .adcImmediate imm => Sys2Proof.Machine.execAdcImmediate imm s
  | .rorAccumulator => Sys2Proof.Machine.execRorAccumulator s
  | .jmpIndirect ptr => Sys2Proof.Machine.execJmpIndirect ptr s
  | .adcAbsolute addr => Sys2Proof.Machine.execAdcAbsolute addr s
  | .rorAbsolute addr => Sys2Proof.Machine.execRorAbsolute addr s
  | .bvs off => Sys2Proof.Machine.execBvs off s
  | .adcIndirectIndexed zp => Sys2Proof.Machine.execAdcIndirectIndexed zp s
  | .adcZeroPageX zp => Sys2Proof.Machine.execAdcZeroPageX zp s
  | .rorZeroPageX zp => Sys2Proof.Machine.execRorZeroPageX zp s
  | .sei => Sys2Proof.Machine.execSei s
  | .adcAbsoluteY addr => Sys2Proof.Machine.execAdcAbsoluteY addr s
  | .adcAbsoluteX addr => Sys2Proof.Machine.execAdcAbsoluteX addr s
  | .rorAbsoluteX addr => Sys2Proof.Machine.execRorAbsoluteX addr s
  | .staIndexedIndirect zp => Sys2Proof.Machine.execStaIndexedIndirect zp s
  | .styZeroPage zp => Sys2Proof.Machine.execStyZeroPage zp s
  | .staZeroPage zp => Sys2Proof.Machine.execStaZeroPage zp s
  | .stxZeroPage zp => Sys2Proof.Machine.execStxZeroPage zp s
  | .dey => Sys2Proof.Machine.execDey s
  | .txa => Sys2Proof.Machine.execTxa s
  | .styAbsolute addr => Sys2Proof.Machine.execStyAbsolute addr s
  | .staAbsolute addr => Sys2Proof.Machine.execStaAbsolute addr s
  | .stxAbsolute addr => Sys2Proof.Machine.execStxAbsolute addr s
  | .bcc off => Sys2Proof.Machine.execBcc off s
  | .staIndirectIndexed zp => Sys2Proof.Machine.execStaIndirectIndexed zp s
  | .styZeroPageX zp => Sys2Proof.Machine.execStyZeroPageX zp s
  | .staZeroPageX zp => Sys2Proof.Machine.execStaZeroPageX zp s
  | .stxZeroPageY zp => Sys2Proof.Machine.execStxZeroPageY zp s
  | .tya => Sys2Proof.Machine.execTya s
  | .staAbsoluteY addr => Sys2Proof.Machine.execStaAbsoluteY addr s
  | .txs => Sys2Proof.Machine.execTxs s
  | .staAbsoluteX addr => Sys2Proof.Machine.execStaAbsoluteX addr s
  | .ldyImmediate imm => Sys2Proof.Machine.execLdyImmediate imm s
  | .ldaIndexedIndirect zp => Sys2Proof.Machine.execLdaIndexedIndirect zp s
  | .ldxImmediate imm => Sys2Proof.Machine.execLdxImmediate imm s
  | .ldyZeroPage zp => Sys2Proof.Machine.execLdyZeroPage zp s
  | .ldaZeroPage zp => Sys2Proof.Machine.execLdaZeroPage zp s
  | .ldxZeroPage zp => Sys2Proof.Machine.execLdxZeroPage zp s
  | .tay => Sys2Proof.Machine.execTay s
  | .ldaImmediate imm => Sys2Proof.Machine.execLdaImmediate imm s
  | .tax => Sys2Proof.Machine.execTax s
  | .ldyAbsolute addr => Sys2Proof.Machine.execLdyAbsolute addr s
  | .ldaAbsolute addr => Sys2Proof.Machine.execLdaAbsolute addr s
  | .ldxAbsolute addr => Sys2Proof.Machine.execLdxAbsolute addr s
  | .bcs off => Sys2Proof.Machine.execBcs off s
  | .ldaIndirectIndexed zp => Sys2Proof.Machine.execLdaIndirectIndexed zp s
  | .ldyZeroPageX zp => Sys2Proof.Machine.execLdyZeroPageX zp s
  | .ldaZeroPageX zp => Sys2Proof.Machine.execLdaZeroPageX zp s
  | .ldxZeroPageY zp => Sys2Proof.Machine.execLdxZeroPageY zp s
  | .clv => Sys2Proof.Machine.execClv s
  | .ldaAbsoluteY addr => Sys2Proof.Machine.execLdaAbsoluteY addr s
  | .tsx => Sys2Proof.Machine.execTsx s
  | .ldyAbsoluteX addr => Sys2Proof.Machine.execLdyAbsoluteX addr s
  | .ldaAbsoluteX addr => Sys2Proof.Machine.execLdaAbsoluteX addr s
  | .ldxAbsoluteY addr => Sys2Proof.Machine.execLdxAbsoluteY addr s
  | .cpyImmediate imm => Sys2Proof.Machine.execCpyImmediate imm s
  | .cmpIndexedIndirect zp => Sys2Proof.Machine.execCmpIndexedIndirect zp s
  | .cpyZeroPage zp => Sys2Proof.Machine.execCpyZeroPage zp s
  | .cmpZeroPage zp => Sys2Proof.Machine.execCmpZeroPage zp s
  | .decZeroPage zp => Sys2Proof.Machine.execDecZeroPage zp s
  | .iny => Sys2Proof.Machine.execIny s
  | .cmpImmediate imm => Sys2Proof.Machine.execCmpImmediate imm s
  | .dex => Sys2Proof.Machine.execDex s
  | .cpyAbsolute addr => Sys2Proof.Machine.execCpyAbsolute addr s
  | .cmpAbsolute addr => Sys2Proof.Machine.execCmpAbsolute addr s
  | .decAbsolute addr => Sys2Proof.Machine.execDecAbsolute addr s
  | .bne off => Sys2Proof.Machine.execBne off s
  | .cmpIndirectIndexed zp => Sys2Proof.Machine.execCmpIndirectIndexed zp s
  | .cmpZeroPageX zp => Sys2Proof.Machine.execCmpZeroPageX zp s
  | .decZeroPageX zp => Sys2Proof.Machine.execDecZeroPageX zp s
  | .cld => Sys2Proof.Machine.execCld s
  | .cmpAbsoluteY addr => Sys2Proof.Machine.execCmpAbsoluteY addr s
  | .cmpAbsoluteX addr => Sys2Proof.Machine.execCmpAbsoluteX addr s
  | .decAbsoluteX addr => Sys2Proof.Machine.execDecAbsoluteX addr s
  | .cpxImmediate imm => Sys2Proof.Machine.execCpxImmediate imm s
  | .sbcIndexedIndirect zp => Sys2Proof.Machine.execSbcIndexedIndirect zp s
  | .cpxZeroPage zp => Sys2Proof.Machine.execCpxZeroPage zp s
  | .sbcZeroPage zp => Sys2Proof.Machine.execSbcZeroPage zp s
  | .incZeroPage zp => Sys2Proof.Machine.execIncZeroPage zp s
  | .inx => Sys2Proof.Machine.execInx s
  | .sbcImmediate imm => Sys2Proof.Machine.execSbcImmediate imm s
  | .nop => Sys2Proof.Machine.execNop s
  | .cpxAbsolute addr => Sys2Proof.Machine.execCpxAbsolute addr s
  | .sbcAbsolute addr => Sys2Proof.Machine.execSbcAbsolute addr s
  | .incAbsolute addr => Sys2Proof.Machine.execIncAbsolute addr s
  | .beq off => Sys2Proof.Machine.execBeq off s
  | .sbcIndirectIndexed zp => Sys2Proof.Machine.execSbcIndirectIndexed zp s
  | .sbcZeroPageX zp => Sys2Proof.Machine.execSbcZeroPageX zp s
  | .incZeroPageX zp => Sys2Proof.Machine.execIncZeroPageX zp s
  | .sed => Sys2Proof.Machine.execSed s
  | .sbcAbsoluteY addr => Sys2Proof.Machine.execSbcAbsoluteY addr s
  | .sbcAbsoluteX addr => Sys2Proof.Machine.execSbcAbsoluteX addr s
  | .incAbsoluteX addr => Sys2Proof.Machine.execIncAbsoluteX addr s
  | .ill op => Sys2Proof.Machine.execIll op s

end Sys2Proof.Machine
end

