-- ==== Sys2Proof/Machine/Step.lean ====
section
/-! DEFINITION. One step of the machine (R160), and placing an instruction where the next step fetches it. -/

namespace Sys2Proof.Machine

/-- `step()` (R160, R337): a halted core faults without change; a pending NMI, then an unmasked IRQ, is taken;
otherwise the instruction at PC is executed. -/
def step (s : State) : Host.Outcome State Fault Refusal :=
  match s.poll with
  | .stuck => .fault (.halted s.pc)
  | .nmi => .next (takeNmi s)
  | .irq => .next (takeIrq s)
  | .instruction => exec (fetchInstr s) s

/-- The state with the instruction of table word `w` placed where `step` fetches its next instruction
(assumption log 9). -/
def State.withFetchWord (s : State) (nbits w : Nat) : State := s.placeBytes (tableWordBytes nbits w)

end Sys2Proof.Machine
end

