-- ==== Sys2Proof/Machine/Interface.lean ====
section
/-! DEFINITION. The host interface: the four calls, and nothing else (R353). -/

namespace Sys2Proof.Machine

/-- A host call (R353). -/
inductive HostCall where
  | step
  | reset
  | requestIrq
  | requestNmi
  deriving DecidableEq, Repr

/-- What the block does on a host call (R353). -/
def hostCall (c : HostCall) (s : State) : Result :=
  match c with
  | .step => step s
  | .reset => .next (resetCall s)
  | .requestIrq => .next (requestIrq s)
  | .requestNmi => .next (requestNmi s)

/-- The state a host call leaves. A step of a halted core returns its fault and leaves the state unchanged (R331). -/
def afterCall (s : State) (c : HostCall) : State :=
  match hostCall c s with
  | .next t => t
  | .fault _ => s
  | .refused _ => s

end Sys2Proof.Machine
end

