-- ==== Sys2Proof/Safety.lean ====
section
/-! DEFINITION. The terms in which statements speak: the invariant, the forms of an instruction, what a status byte
and a memory are after a write. -/

namespace Sys2Proof.Machine

/-- What holds of the machine at every point of a run. -/
structure State.Inv (s : State) : Prop where
  /-- the passive store is in canonical form -/
  memory : s.mem.wf = true
  /-- bit 5 of P is 1 (R45) -/
  bit5 : s.p.getLsbD 5 = true
  /-- the stored B bit is 0: it starts at 0 and nothing writes it (R44) -/
  breakClear : flagOf s.p .B = false
  /-- a cycle count lies in 2..7 (R354) -/
  cycles : ∀ n, s.returned = .cycles n → 2 ≤ n ∧ n ≤ 7
  /-- the resolver is never misused (R332) -/
  noMisuse : ∀ m, s.returned ≠ .fault (.resolverMisuse m)

/-- `p'` is `p` with exactly the flags that `w` gives a value written, and bit 5 set (R45, R190). -/
def StatusAfter (p p' : Byte) (w : Flag → Option Bool) : Prop :=
  p'.getLsbD 5 = true ∧ ∀ f, flagOf p' f = (w f).getD (flagOf p f)

/-- The flags `set_zn(v)` writes (R191). -/
def znFlags (v : Byte) (f : Flag) : Option Bool :=
  match f with
  | .Z => some (decide (v = 0))
  | .N => some (decide (128 ≤ v.toNat))
  | .V | .B | .D | .I | .C => none

/-- Z, N and C written (R193: shifts and comparisons). -/
def zncFlags (v : Byte) (c : Bool) (f : Flag) : Option Bool :=
  match f with
  | .C => some c
  | .Z => some (decide (v = 0))
  | .N => some (decide (128 ≤ v.toNat))
  | .V | .B | .D | .I => none

/-- Z, N, C and V written (R193: ADC and SBC). -/
def znvcFlags (v : Byte) (c o : Bool) (f : Flag) : Option Bool :=
  match f with
  | .C => some c
  | .V => some o
  | .Z => some (decide (v = 0))
  | .N => some (decide (128 ≤ v.toNat))
  | .B | .D | .I => none

/-- One flag written. -/
def oneFlag (g : Flag) (b : Bool) (f : Flag) : Option Bool := if f = g then some b else none

/-- The flags PLP and RTI take from a pulled byte: all but the stored B (R283, R296). -/
def pulledFlags (v : Byte) (f : Flag) : Option Bool := if f = .B then none else some (flagOf v f)

/-- `m` is the passive store of `s` with the bytes of `w` written, each at its address's cell (the first of the
list that names the cell gives its byte), but for those a collaborator answers at; every other byte is as before. -/
def StoredAfter (s : State) (m : Memory) (w : List (Word × Byte)) : Prop :=
  ∀ b : Word, m.read (cellKey b) =
    match w.find? (fun c => decide (cellKey b = cellKey c.1) && !s.isDevice c.1) with
    | some c => c.2
    | none => s.stored b

/-- One encoding of an instruction as its rule's Encoding line gives it. -/
structure Form where
  /-- the instruction -/
  instr : Instr
  /-- its operand form -/
  operand : Operand
  /-- its bytes -/
  bytes : List Byte
  /-- its base cycles -/
  cycles : Nat
  /-- the `+p` of the Encoding line: one more cycle on a page cross -/
  penalty : Bool

/-- The state after a completed instruction that changes nothing but P, to `p'`: PC past its bytes, `irq_inhibit` the
I it leaves (R52), and its cycle count returned (R382). `d` is the model's own draw counter, of which the statements
that use this say nothing. -/
def Form.after (f : Form) (s : State) (p' : Byte) (crossed : Bool) (extra d : Nat) : State :=
  { s with
    pc := s.pc + BitVec.ofNat 16 f.bytes.length
    p := p'
    irqInhibit := flagOf p' .I
    draws := d
    returned := .cycles (f.cycles + (if f.penalty && crossed then 1 else 0) + extra) }

/-- What ASL, LSR, ROL, ROR, INC or DEC in form `f` does (R153): the operand's byte `v` becomes `r v` by one read and
one write at one address (in A for the accumulator form), and the flags `w v` are written. -/
def Modifies (f : Form) (s : State) (r : Byte → Byte) (w : Byte → Flag → Option Bool) : Prop :=
  match f.operand with
  | .accumulator =>
    ∃ p' d, StatusAfter s.p p' (w s.a) ∧ exec f.instr s = .next { f.after s p' false 0 d with a := r s.a }
  | o =>
    ∃ ea p' m d, getAddress o s = .ok ea ∧
      StatusAfter s.p p' (w (s.memRead .data ea.addr)) ∧
      StoredAfter s m [(ea.addr, r (s.memRead .data ea.addr))] ∧
      exec f.instr s = .next { f.after s p' false 0 d with mem := m }

/-- A run is safe while the core is not halted (R331: a run that reaches a fault is no successful run). -/
def State.Safe (s : State) : Prop := s.halted = false

end Sys2Proof.Machine
end

