-- ==== Sys2Proof/Certificates/Slice0/Obligations.lean ====
section
/-! DEFINITION. The statements for the provers, from the numbered rules of the spec. -/

open Sys2Proof Sys2Proof.Machine

/-- One encoding of each family, its bytes written out from the spec, decodes to its instruction: LDA #$80, STA $0200, LDX $F0,Y, ADC #$50, BIT $0200, ASL $12F0,X, CMP $12F0,X, DEC $10, PHA, JMP ($02FF), JSR $9000, BRK with padding EA, BNE with offset FA, CLI, and the undocumented 02. -/
def Obligations.SpecWordsDecode : Prop :=
  decode [0xA9, 0x80] = .ok (.ldaImmediate 0x80, []) ∧
  decode [0x8D, 0x00, 0x02] = .ok (.staAbsolute 0x0200, []) ∧
  decode [0xB6, 0xF0] = .ok (.ldxZeroPageY 0xF0, []) ∧
  decode [0x69, 0x50] = .ok (.adcImmediate 0x50, []) ∧
  decode [0x2C, 0x00, 0x02] = .ok (.bitAbsolute 0x0200, []) ∧
  decode [0x1E, 0xF0, 0x12] = .ok (.aslAbsoluteX 0x12F0, []) ∧
  decode [0xDD, 0xF0, 0x12] = .ok (.cmpAbsoluteX 0x12F0, []) ∧
  decode [0xC6, 0x10] = .ok (.decZeroPage 0x10, []) ∧
  decode [0x48] = .ok (.pha, []) ∧
  decode [0x6C, 0xFF, 0x02] = .ok (.jmpIndirect 0x02FF, []) ∧
  decode [0x20, 0x00, 0x90] = .ok (.jsr 0x9000, []) ∧
  decode [0x00, 0xEA] = .ok (.brk 0xEA, []) ∧
  decode [0xD0, 0xFA] = .ok (.bne 0xFA, []) ∧
  decode [0x58] = .ok (.cli, []) ∧
  decode [0x02, 0x11] = .ok (.ill 0x02, [0x11])

/-- For every well-formed instruction, every value of its operands and every bytes that follow, decoding its encoded bytes gives exactly that instruction and leaves the bytes that follow. -/
def Obligations.DecodeAfterEncode : Prop :=
  ∀ (i : Instr) (rest : List Byte), i.wellFormed = true → decode (encode i ++ rest) = .ok (i, rest)

/-- Whenever the decoder reads an instruction off a byte list, the instruction is well-formed and the bytes it took are exactly its encoding: no two encodings mean the same instruction. -/
def Obligations.EncodeAfterDecode : Prop :=
  ∀ (bytes : List Byte) (i : Instr) (rest : List Byte),
    decode bytes = .ok (i, rest) → i.wellFormed = true ∧ bytes = encode i ++ rest

/-- Every opcode value followed by two bytes decodes to a well-formed instruction with that opcode; it decodes to ILL exactly when it is one of the 105 listed undocumented values, and an undocumented value consumes no operand byte; there are 105 distinct undocumented values and 151 documented ones. -/
def Obligations.EveryOpcodeDecodes : Prop :=
  (∀ op b1 b2 : Byte, ∃ i rest, decode [op, b1, b2] = .ok (i, rest) ∧ i.wellFormed = true ∧ i.opcode = op) ∧
  (∀ op b1 b2 : Byte, op ∈ undocumentedOpcodes ↔ decode [op, b1, b2] = .ok (.ill op, [b1, b2])) ∧
  (∀ op : Byte, op ∈ undocumentedOpcodes ↔ entry op = none) ∧
  undocumentedOpcodes.Nodup ∧ undocumentedOpcodes.length = 105 ∧
  (opcodeTable.filter (fun e => e.isSome)).length = 151

/-- The encoding of a documented instruction is 1 byte for Implied and Accumulator, 2 for Immediate, the zero-page modes, Relative and the two indirect indexed modes, 3 for the absolute modes and Indirect, and 2 for BRK; it lies in 1..3; an undocumented opcode is the opcode byte alone, and decoding it leaves everything after it. -/
def Obligations.EncodedLengthByOpcode : Prop :=
  (∀ i : Instr, ∀ e : Entry, entry i.opcode = some e → i.wellFormed = true →
    (encode i).length =
      (if e.mnemonic = .brk then 2
       else match e.mode with
        | .implied | .accumulator => 1
        | .immediate | .zeroPage | .zeroPageX | .zeroPageY | .relative | .indexedIndirect | .indirectIndexed => 2
        | .absolute | .absoluteX | .absoluteY | .indirect => 3)) ∧
  (∀ i : Instr, 1 ≤ (encode i).length ∧ (encode i).length ≤ 3) ∧
  (∀ op : Byte, entry op = none → encode (.ill op) = [op] ∧ ∀ rest, decode (op :: rest) = .ok (.ill op, rest))

/-- In a state that is not halted and about to take no interrupt, whose bytes at PC, PC + 1 and PC + 2 decode to an instruction, the step is exec of that instruction on that same state, and the instruction is well-formed. Moving PC past the bytes, irq_inhibit and the cycle count are part of exec. -/
def Obligations.StepRunsDecodedInstruction : Prop :=
  ∀ (s : State) (i : Instr) (rest : List Byte),
    s.halted = false → s.nmiPending = false → (s.irqPending && !s.irqInhibit) = false →
    decode [s.memRead .opcode s.pc, s.memRead .operandLo (s.pc + 1), s.memRead .operandHi (s.pc + 2)] = .ok (i, rest) →
    step s = exec i s ∧ i.wellFormed = true

/-- A step of a halted core is the fault Halted with PC and changes nothing. A step that leaves halted = 1 has fetched an undocumented opcode, and a step that executes one does leave it. Interrupt requests do not wake the core, reset() clears halted, and it is 0 at power-on. (That the halting step answers a next state whose return value is the fault is the model's form, log entry 1.) -/
def Obligations.HaltedLatch : Prop :=
  (∀ s : State, s.halted = true → step s = .fault (.halted s.pc)) ∧
  (∀ s t : State, step s = .next t → t.halted = true →
    s.poll = .instruction ∧ ∃ op, fetchInstr s = .ill op ∧ op ∈ undocumentedOpcodes) ∧
  (∀ (s : State) (op : Byte), s.poll = .instruction → fetchInstr s = .ill op →
    ∃ t, step s = .next t ∧ t.halted = true ∧ t.pc = s.pc ∧ step t = .fault (.halted s.pc)) ∧
  (∀ s : State, (requestIrq s).halted = s.halted ∧ (requestNmi s).halted = s.halted ∧
    (resetCall s).halted = false) ∧
  (∀ (bus : Bus) (image : Nat → Byte), (powerOn bus image).halted = false)

/-- A step of a core that is not halted with nmi_pending = 1 takes NMI: it clears nmi_pending and runs the interrupt sequence with vector 0xFFFA. With no NMI pending, irq_pending = 1 and irq_inhibit = 0 it takes IRQ: it clears irq_pending and runs the sequence with vector 0xFFFE. The sequence pushes PC high, PC low and the status byte with bit 5 set and B clear at 0x0100 + SP, SP - 1, SP - 2 (modulo 256 in the page), sets I and loads PC from the vector; irq_inhibit becomes 1 and the step returns 7 cycles. No instruction runs, and every other register, flag and byte is as before. -/
def Obligations.InterruptsAreTaken : Prop :=
  (∀ (s : State), s.mem.wf = true → s.halted = false → s.nmiPending = true →
    ∃ p' m d,
      StatusAfter s.p p' (oneFlag .I true) ∧
      StoredAfter s m
        [(0x0100 + zext16 s.sp, hiByte s.pc), (0x0100 + zext16 (s.sp - 1), loByte s.pc),
         (0x0100 + zext16 (s.sp - 2), (s.p ||| 0x20) &&& 0xEF)] ∧
      step s = .next
        { s with
          pc := s.readWord .vectorLo .vectorHi 0xFFFA
          sp := s.sp - 3
          p := p'
          mem := m
          nmiPending := false
          irqInhibit := true
          draws := d
          returned := .cycles 7 }) ∧
  (∀ (s : State), s.mem.wf = true → s.halted = false → s.nmiPending = false → s.irqPending = true → s.irqInhibit = false →
    ∃ p' m d,
      StatusAfter s.p p' (oneFlag .I true) ∧
      StoredAfter s m
        [(0x0100 + zext16 s.sp, hiByte s.pc), (0x0100 + zext16 (s.sp - 1), loByte s.pc),
         (0x0100 + zext16 (s.sp - 2), (s.p ||| 0x20) &&& 0xEF)] ∧
      step s = .next
        { s with
          pc := s.readWord .vectorLo .vectorHi 0xFFFE
          sp := s.sp - 3
          p := p'
          mem := m
          irqPending := false
          irqInhibit := true
          draws := d
          returned := .cycles 7 })

/-- After CLI, SEI and PLP irq_inhibit is the value P.I had before the instruction; after every other completed instruction it is the value of P.I after it; after an interrupt sequence and after reset() it is 1; it is 1 at power-on. -/
def Obligations.IrqInhibitFollowsI : Prop :=
  (∀ (i : Instr) (s t : State) (m : Mnemonic), i.mnemonic = some m → exec i s = .next t →
    i.wellFormed = true →
    t.irqInhibit = if m = .cli ∨ m = .sei ∨ m = .plp then s.flag .I else t.flag .I) ∧
  (∀ s t : State, (s.poll = .nmi ∨ s.poll = .irq) → step s = .next t → t.irqInhibit = true) ∧
  (∀ s : State, (resetCall s).irqInhibit = true) ∧
  (∀ (bus : Bus) (image : Nat → Byte), (powerOn bus image).irqInhibit = true)

/-- Every address below 0x2000 is RAM cell a & 0x07FF, below 0x4000 PPU cell a & 0x0007, below 0x4018 APU/IO cell a - 0x4000, below 0x4020 test cell a - 0x4018, and above that cartridge cell a - 0x4020; every cell lies within its region (2048, 8, 24, 8 and 0xBFE0 bytes), and two addresses share a store key exactly when they route to the same cell. -/
def Obligations.AddressMap : Prop :=
  (∀ a : Word, route a =
    if a < 0x2000 then (.ram, (a &&& 0x07FF).toNat)
    else if a < 0x4000 then (.ppu, (a &&& 0x0007).toNat)
    else if a ≤ 0x4017 then (.apu, (a - 0x4000).toNat)
    else if a ≤ 0x401F then (.test, (a - 0x4018).toNat)
    else (.cart, (a - 0x4020).toNat)) ∧
  (∀ a : Word, (route a).2 < match (route a).1 with
    | .ram => 2048 | .ppu => 8 | .apu => 24 | .test => 8 | .cart => 0xBFE0) ∧
  (∀ a b : Word, cellKey a = cellKey b ↔ route a = route b)

/-- On the passive platform, for every address a and byte v, a write of v at a followed by a read of any address that routes to the same cell returns v, whatever region a lies in: in 0x0000..0x1FFF every address with the same a & 0x07FF, in 0x2000..0x3FFF every address with the same a & 0x0007. A read of an address of any other cell returns what it returned before. -/
def Obligations.ReadAfterWrite : Prop :=
  ∀ (s : State) (a b : Word) (v : Byte) (k : Access), s.bus = .passive → s.mem.wf = true →
    (route b = route a → (s.memWrite a v).memRead k b = v) ∧
    (route b ≠ route a → (s.memWrite a v).memRead k b = s.memRead k b) ∧
    (a < 0x2000 → (route b = route a ↔ b < 0x2000 ∧ a &&& 0x07FF = b &&& 0x07FF)) ∧
    (0x2000 ≤ a → a < 0x4000 → (route b = route a ↔ 0x2000 ≤ b ∧ b < 0x4000 ∧ a &&& 0x0007 = b &&& 0x0007)) ∧
    (0x4000 ≤ a → (route b = route a ↔ b = a))

/-- Under an attached collaborator a read of an address in D is a free value and a write there leaves the whole state unchanged; every other address behaves as on the passive platform. An address below 0x2000 is never a device address, and on the passive platform none is. (That D lies outside internal RAM is the model's reading, log entry 10; the draw's form is log entry 3.) -/
def Obligations.DeviceAccessesAreDraws : Prop :=
  ∀ (s : State) (a : Word) (v : Byte) (k : Access),
    (s.isDevice a = true → s.memRead k a = Config.freeByte s.draws k ∧ s.memWrite a v = s) ∧
    (s.isDevice a = false → s.memRead k a = s.stored a ∧
      s.memWrite a v = { s with mem := s.mem.write (cellKey a) v }) ∧
    (a < 0x2000 → s.isDevice a = false) ∧ (s.bus = .passive → s.isDevice a = false) ∧
    (∀ d, s.bus = .attached d →
      (s.isDevice a = true ↔ 0x2000 ≤ a ∧ ∃ r ∈ d, r.first ≤ a ∧ a ≤ r.last))

/-- On the passive platform ReadWord(a) has the value of the byte at (a + 1) mod 65536 times 256 plus the byte at a; and writing 0x34 at a and 0x12 at a + 1 and then reading the word at a yields 0x1234, for every a. -/
def Obligations.WordReadIsLittleEndian : Prop :=
  ∀ (s : State) (a : Word) (kl kh : Access), s.bus = .passive → s.mem.wf = true →
    (s.readWord kl kh a).toNat =
      256 * (s.memRead kh (BitVec.ofNat 16 ((a.toNat + 1) % 65536))).toNat + (s.memRead kl a).toNat ∧
    ((s.memWrite a 0x34).memWrite (a + 1) 0x12).readWord kl kh a = 0x1234

/-- From every state that meets the invariant (the store is canonical; bit 5 of P is 1; the stored B is 0; a returned cycle count lies in 2..7; the resolver was not misused) a step that answers a next state answers one that meets it, whether it runs an instruction or takes NMI or IRQ, on the passive platform or with a collaborator attached. -/
def Obligations.StepKeepsInvariant : Prop :=
  ∀ s t : State, s.Inv → step s = .next t → t.Inv

/-- The state after reset meets the invariant that every step keeps. -/
def Obligations.ResetMeetsInvariant : Prop :=
  State.reset.Inv

/-- For every bus parameter, every cartridge image and every sequence of host calls (step, reset, request_irq, request_nmi) from power-on, the state reached meets the invariant. -/
def Obligations.EveryReachableStateMeetsInvariant : Prop :=
  ∀ (bus : Bus) (image : Nat → Byte) (calls : List HostCall), (calls.foldl afterCall (powerOn bus image)).Inv

/-- A step that answers a next state leaves the stored B bit and the bus parameter as they were, sets neither nmi_pending nor irq_pending, and clears one only by taking it: an instruction leaves both as they were. That the bus parameter is a field that no step changes is log entry 3 (DESIGN CHOICE). The model's own draw counter moves on by one (log entry 5), so no two steps share a draw. -/
def Obligations.StepLeavesPlatformAndBreakFlag : Prop :=
  ∀ s t : State, step s = .next t →
    t.flag .B = s.flag .B ∧ t.bus = s.bus ∧ t.draws = s.draws + 1 ∧
    (s.poll = .nmi → t.nmiPending = false ∧ t.irqPending = s.irqPending) ∧
    (s.poll = .irq → t.irqPending = false ∧ t.nmiPending = s.nmiPending) ∧
    (s.poll = .instruction → t.nmiPending = s.nmiPending ∧ t.irqPending = s.irqPending)

/-- Two states that differ only in what the last host call returned (the cycle count) take the same step: the same next state or the same fault. -/
def Obligations.CycleCountInfluencesNothing : Prop :=
  ∀ (s : State) (r : Return), step { s with returned := r } = step s

/-- For every instruction and every state exec answers a next state. A documented instruction returns a cycle count of at least 2 and at most 7 and leaves halted as it was; ILL returns the fault IllegalOpcode with its opcode and PC. So the resolver is never misused. (That ILL answers a next state carrying the fault is log entry 1.) -/
def Obligations.EveryInstructionCompletesOrHalts : Prop :=
  ∀ (i : Instr) (s : State), ∃ t, exec i s = .next t ∧
    ((∃ n, t.returned = .cycles n ∧ 2 ≤ n ∧ n ≤ 7 ∧ t.halted = s.halted) ∨
     (∃ op, i = .ill op ∧ t.returned = .fault (.illegalOpcode op s.pc) ∧ t.halted = true))

/-- If an instruction changes A it is LDA, TXA, TYA, PLA, ADC, SBC, AND, ORA, EOR or a shift or rotate in the accumulator form; X: LDX, TAX, TSX, INX, DEX; Y: LDY, TAY, INY, DEY; SP: TXS or an instruction that pushes or pulls; memory: a store, a read-modify-write instruction, PHA, PHP, JSR or BRK. -/
def Obligations.OnlyTheirWritersWriteRegisters : Prop :=
  ∀ (i : Instr) (s t : State), exec i s = .next t →
    (t.a ≠ s.a → i.mnemonic ∈ [some .lda, some .txa, some .tya, some .pla, some .adc, some .sbc, some .and, some .ora, some .eor, some .asl, some .lsr, some .rol, some .ror]) ∧
    (t.a ≠ s.a → i.mnemonic ∈ [some .asl, some .lsr, some .rol, some .ror] → i.operand = .accumulator) ∧
    (t.x ≠ s.x → i.mnemonic ∈ [some .ldx, some .tax, some .tsx, some .inx, some .dex]) ∧
    (t.y ≠ s.y → i.mnemonic ∈ [some .ldy, some .tay, some .iny, some .dey]) ∧
    (t.sp ≠ s.sp → i.mnemonic ∈ [some .txs, some .pha, some .php, some .pla, some .plp, some .jsr, some .rts, some .rti, some .brk]) ∧
    (t.mem ≠ s.mem → i.mnemonic ∈ [some .sta, some .stx, some .sty, some .asl, some .lsr, some .rol, some .ror, some .inc, some .dec, some .pha, some .php, some .jsr, some .brk])

/-- The effective address of ZeroPage is the operand byte; of ZeroPageX and ZeroPageY the byte plus the index modulo 256; it lies below 0x0100 and no page is crossed. -/
def Obligations.ZeroPageAddresses : Prop :=
  ∀ (zp : Byte) (s : State),
    getAddress (.zeroPage zp) s = .ok ⟨BitVec.ofNat 16 zp.toNat, false⟩ ∧
    getAddress (.zeroPageX zp) s = .ok ⟨BitVec.ofNat 16 ((zp.toNat + s.x.toNat) % 256), false⟩ ∧
    getAddress (.zeroPageY zp) s = .ok ⟨BitVec.ofNat 16 ((zp.toNat + s.y.toNat) % 256), false⟩

/-- The effective address of Absolute is the operand word; of AbsoluteX and AbsoluteY the word plus the index modulo 65536, and a page is crossed exactly when the address and the base differ in bits 15:8. -/
def Obligations.AbsoluteAddresses : Prop :=
  ∀ (base : Word) (s : State),
    getAddress (.absolute base) s = .ok ⟨base, false⟩ ∧
    (∃ r, getAddress (.absoluteX base) s = .ok r ∧ r.addr.toNat = (base.toNat + s.x.toNat) % 65536 ∧
      (r.crossed = true ↔ base.toNat / 256 ≠ r.addr.toNat / 256)) ∧
    (∃ r, getAddress (.absoluteY base) s = .ok r ∧ r.addr.toNat = (base.toNat + s.y.toNat) % 65536 ∧
      (r.crossed = true ↔ base.toNat / 256 ≠ r.addr.toNat / 256))

/-- The effective address of Indirect is the byte at the pointer plus 256 times the byte at the pointer's successor within its own page: for a pointer ending in 0xFF, the first byte of that page; for every other pointer the word at the pointer. -/
def Obligations.IndirectWrapsInItsPage : Prop :=
  ∀ (ptr : Word) (s : State), ∃ r, getAddress (.indirect ptr) s = .ok r ∧ r.crossed = false ∧
    r.addr.toNat =
      256 * (s.memRead .pointerHi (BitVec.ofNat 16 (ptr.toNat / 256 * 256 + (ptr.toNat + 1) % 256))).toNat +
        (s.memRead .pointerLo ptr).toNat ∧
    (ptr.toNat % 256 ≠ 255 → r.addr = s.readWord .pointerLo .pointerHi ptr)

/-- The effective address of IndexedIndirect is the word whose low byte is at (zp + X) mod 256 and whose high byte is at (zp + X + 1) mod 256, both in the zero page, unmodified; no page is crossed. The zero page is internal RAM, so both bytes are the store's. -/
def Obligations.IndexedIndirectAddress : Prop :=
  ∀ (zp : Byte) (s : State), ∃ r, getAddress (.indexedIndirect zp) s = .ok r ∧ r.crossed = false ∧
    r.addr.toNat =
      256 * (s.stored (BitVec.ofNat 16 ((zp.toNat + s.x.toNat + 1) % 256))).toNat +
        (s.stored (BitVec.ofNat 16 ((zp.toNat + s.x.toNat) % 256))).toNat

/-- The effective address of IndirectIndexed is the word at the zero-page pointer (its second byte's address wrapping in the zero page) plus Y modulo 65536; a page is crossed exactly when it differs from the pointer word in bits 15:8. -/
def Obligations.IndirectIndexedAddress : Prop :=
  ∀ (zp : Byte) (s : State), ∃ r, getAddress (.indirectIndexed zp) s = .ok r ∧
    ∃ base : Nat,
      base = 256 * (s.stored (BitVec.ofNat 16 ((zp.toNat + 1) % 256))).toNat +
        (s.stored (BitVec.ofNat 16 zp.toNat)).toNat ∧
      r.addr.toNat = (base + s.y.toNat) % 65536 ∧
      (r.crossed = true ↔ base / 256 ≠ r.addr.toNat / 256)

/-- read_operand of Accumulator is A, of Immediate the literal, and of every mode with an address the byte read at that address; get_address of Implied, Accumulator, Immediate and Relative, read_operand of Implied and Relative, and write_operand of Immediate, Implied and Relative are misuses of the resolver, and a misuse halts the core and returns its fault (its form is log entry 1). -/
def Obligations.OperandValues : Prop :=
  ∀ (s : State) (b v : Byte),
    readOperand .accumulator s = .ok (s.a, false) ∧ readOperand (.immediate b) s = .ok (b, false) ∧
    (∀ (o : Operand) (ea : Resolved), getAddress o s = .ok ea →
      readOperand o s = .ok (s.memRead .data ea.addr, ea.crossed)) ∧
    getAddress .implied s = .error .implied ∧ getAddress .accumulator s = .error .accumulator ∧
    getAddress (.immediate b) s = .error .immediate ∧ getAddress (.relative b) s = .error .relative ∧
    readOperand .implied s = .error .implied ∧ readOperand (.relative b) s = .error .relative ∧
    writeOperand .implied v s = .error .implied ∧ writeOperand (.immediate b) v s = .error .immediate ∧
    writeOperand (.relative b) v s = .error .relative ∧
    (∀ m : Mode, misuse m s =
      .next { s with halted := true, draws := s.draws + 1, returned := .fault (.resolverMisuse m) })

/-- The encodings of LDA (R210). -/
def ldaForms (imm : Byte) (zp : Byte) (addr : Word) : List Form :=
  [⟨.ldaIndexedIndirect zp, .indexedIndirect zp, [0xA1, zp], 6, false⟩,
   ⟨.ldaZeroPage zp, .zeroPage zp, [0xA5, zp], 3, false⟩,
   ⟨.ldaImmediate imm, .immediate imm, [0xA9, imm], 2, false⟩,
   ⟨.ldaAbsolute addr, .absolute addr, [0xAD, loByte addr, hiByte addr], 4, false⟩,
   ⟨.ldaIndirectIndexed zp, .indirectIndexed zp, [0xB1, zp], 5, true⟩,
   ⟨.ldaZeroPageX zp, .zeroPageX zp, [0xB5, zp], 4, false⟩,
   ⟨.ldaAbsoluteY addr, .absoluteY addr, [0xB9, loByte addr, hiByte addr], 4, true⟩,
   ⟨.ldaAbsoluteX addr, .absoluteX addr, [0xBD, loByte addr, hiByte addr], 4, true⟩]

/-- The encodings of LDX (R211). -/
def ldxForms (imm : Byte) (zp : Byte) (addr : Word) : List Form :=
  [⟨.ldxImmediate imm, .immediate imm, [0xA2, imm], 2, false⟩,
   ⟨.ldxZeroPage zp, .zeroPage zp, [0xA6, zp], 3, false⟩,
   ⟨.ldxAbsolute addr, .absolute addr, [0xAE, loByte addr, hiByte addr], 4, false⟩,
   ⟨.ldxZeroPageY zp, .zeroPageY zp, [0xB6, zp], 4, false⟩,
   ⟨.ldxAbsoluteY addr, .absoluteY addr, [0xBE, loByte addr, hiByte addr], 4, true⟩]

/-- The encodings of LDY (R212). -/
def ldyForms (imm : Byte) (zp : Byte) (addr : Word) : List Form :=
  [⟨.ldyImmediate imm, .immediate imm, [0xA0, imm], 2, false⟩,
   ⟨.ldyZeroPage zp, .zeroPage zp, [0xA4, zp], 3, false⟩,
   ⟨.ldyAbsolute addr, .absolute addr, [0xAC, loByte addr, hiByte addr], 4, false⟩,
   ⟨.ldyZeroPageX zp, .zeroPageX zp, [0xB4, zp], 4, false⟩,
   ⟨.ldyAbsoluteX addr, .absoluteX addr, [0xBC, loByte addr, hiByte addr], 4, true⟩]

/-- The encodings of STA (R213). -/
def staForms (zp : Byte) (addr : Word) : List Form :=
  [⟨.staIndexedIndirect zp, .indexedIndirect zp, [0x81, zp], 6, false⟩,
   ⟨.staZeroPage zp, .zeroPage zp, [0x85, zp], 3, false⟩,
   ⟨.staAbsolute addr, .absolute addr, [0x8D, loByte addr, hiByte addr], 4, false⟩,
   ⟨.staIndirectIndexed zp, .indirectIndexed zp, [0x91, zp], 6, false⟩,
   ⟨.staZeroPageX zp, .zeroPageX zp, [0x95, zp], 4, false⟩,
   ⟨.staAbsoluteY addr, .absoluteY addr, [0x99, loByte addr, hiByte addr], 5, false⟩,
   ⟨.staAbsoluteX addr, .absoluteX addr, [0x9D, loByte addr, hiByte addr], 5, false⟩]

/-- The encodings of STX (R214). -/
def stxForms (zp : Byte) (addr : Word) : List Form :=
  [⟨.stxZeroPage zp, .zeroPage zp, [0x86, zp], 3, false⟩,
   ⟨.stxAbsolute addr, .absolute addr, [0x8E, loByte addr, hiByte addr], 4, false⟩,
   ⟨.stxZeroPageY zp, .zeroPageY zp, [0x96, zp], 4, false⟩]

/-- The encodings of STY (R215). -/
def styForms (zp : Byte) (addr : Word) : List Form :=
  [⟨.styZeroPage zp, .zeroPage zp, [0x84, zp], 3, false⟩,
   ⟨.styAbsolute addr, .absolute addr, [0x8C, loByte addr, hiByte addr], 4, false⟩,
   ⟨.styZeroPageX zp, .zeroPageX zp, [0x94, zp], 4, false⟩]

/-- LDA, LDX and LDY in every mode answer the next state in which A, X or Y is the operand, Z and N are set from it, PC is past the instruction's bytes and the cycles are those of its encoding (one more on a page cross where the rule says +p); no other register, flag or byte changes. All encodings of the rules: ldaIndexedIndirect, ldaZeroPage, ldaImmediate, ldaAbsolute, ldaIndirectIndexed, ldaZeroPageX, ldaAbsoluteY, ldaAbsoluteX, ldxImmediate, ldxZeroPage, ldxAbsolute, ldxZeroPageY, ldxAbsoluteY, ldyImmediate, ldyZeroPage, ldyAbsolute, ldyZeroPageX, ldyAbsoluteX. -/
def Obligations.LoadsSetRegisterAndZN : Prop :=
  (∀ (imm : Byte) (zp : Byte) (addr : Word) (s : State), ∀ f ∈ ldaForms imm zp addr,
    encode f.instr = f.bytes ∧
    ∃ v crossed p' d, readOperand f.operand s = .ok (v, crossed) ∧
      StatusAfter s.p p' (znFlags v) ∧
      exec f.instr s = .next { f.after s p' crossed 0 d with a := v }) ∧
  (∀ (imm : Byte) (zp : Byte) (addr : Word) (s : State), ∀ f ∈ ldxForms imm zp addr,
    encode f.instr = f.bytes ∧
    ∃ v crossed p' d, readOperand f.operand s = .ok (v, crossed) ∧
      StatusAfter s.p p' (znFlags v) ∧
      exec f.instr s = .next { f.after s p' crossed 0 d with x := v }) ∧
  (∀ (imm : Byte) (zp : Byte) (addr : Word) (s : State), ∀ f ∈ ldyForms imm zp addr,
    encode f.instr = f.bytes ∧
    ∃ v crossed p' d, readOperand f.operand s = .ok (v, crossed) ∧
      StatusAfter s.p p' (znFlags v) ∧
      exec f.instr s = .next { f.after s p' crossed 0 d with y := v })

/-- STA, STX and STY in every mode answer the next state in which the cell of the effective address holds A, X or Y (unless a collaborator answers there) and every other byte of the store is as before; no register or flag changes but PC; the cycles are those of the encoding, with no page-cross penalty. All encodings of the rules: staIndexedIndirect, staZeroPage, staAbsolute, staIndirectIndexed, staZeroPageX, staAbsoluteY, staAbsoluteX, stxZeroPage, stxAbsolute, stxZeroPageY, styZeroPage, styAbsolute, styZeroPageX. -/
def Obligations.StoresWriteTheEffectiveAddress : Prop :=
  (∀ (zp : Byte) (addr : Word) (s : State), s.mem.wf = true → ∀ f ∈ staForms zp addr,
    encode f.instr = f.bytes ∧
    ∃ ea m d, getAddress f.operand s = .ok ea ∧ StoredAfter s m [(ea.addr, s.a)] ∧
      exec f.instr s = .next { f.after s s.p false 0 d with mem := m }) ∧
  (∀ (zp : Byte) (addr : Word) (s : State), s.mem.wf = true → ∀ f ∈ stxForms zp addr,
    encode f.instr = f.bytes ∧
    ∃ ea m d, getAddress f.operand s = .ok ea ∧ StoredAfter s m [(ea.addr, s.x)] ∧
      exec f.instr s = .next { f.after s s.p false 0 d with mem := m }) ∧
  (∀ (zp : Byte) (addr : Word) (s : State), s.mem.wf = true → ∀ f ∈ styForms zp addr,
    encode f.instr = f.bytes ∧
    ∃ ea m d, getAddress f.operand s = .ok ea ∧ StoredAfter s m [(ea.addr, s.y)] ∧
      exec f.instr s = .next { f.after s s.p false 0 d with mem := m })

/-- TAX copies A to X, TAY A to Y, TXA X to A, TYA Y to A and TSX SP to X; each sets Z and N from the value, is one byte long, costs 2 cycles and changes nothing else. -/
def Obligations.TransfersCopyAndSetZN : Prop :=
  ∀ (s : State),
    (encode .tax = [0xAA] ∧ ∃ p' d, StatusAfter s.p p' (znFlags s.a) ∧
      exec .tax s = .next { Form.after ⟨.tax, .implied, [0xAA], 2, false⟩ s p' false 0 d with x := s.a }) ∧
    (encode .tay = [0xA8] ∧ ∃ p' d, StatusAfter s.p p' (znFlags s.a) ∧
      exec .tay s = .next { Form.after ⟨.tay, .implied, [0xA8], 2, false⟩ s p' false 0 d with y := s.a }) ∧
    (encode .txa = [0x8A] ∧ ∃ p' d, StatusAfter s.p p' (znFlags s.x) ∧
      exec .txa s = .next { Form.after ⟨.txa, .implied, [0x8A], 2, false⟩ s p' false 0 d with a := s.x }) ∧
    (encode .tya = [0x98] ∧ ∃ p' d, StatusAfter s.p p' (znFlags s.y) ∧
      exec .tya s = .next { Form.after ⟨.tya, .implied, [0x98], 2, false⟩ s p' false 0 d with a := s.y }) ∧
    (encode .tsx = [0xBA] ∧ ∃ p' d, StatusAfter s.p p' (znFlags s.sp) ∧
      exec .tsx s = .next { Form.after ⟨.tsx, .implied, [0xBA], 2, false⟩ s p' false 0 d with x := s.sp })

/-- TXS copies X to SP, is one byte long, costs 2 cycles, and changes no flag and nothing else. -/
def Obligations.TxsCopiesWithoutFlags : Prop :=
  ∀ (s : State),
    (encode .txs = [0x9A] ∧ ∃ d,
      exec .txs s = .next { Form.after ⟨.txs, .implied, [0x9A], 2, false⟩ s s.p false 0 d with sp := s.x })

/-- The encodings of ADC (R230). -/
def adcForms (imm : Byte) (zp : Byte) (addr : Word) : List Form :=
  [⟨.adcIndexedIndirect zp, .indexedIndirect zp, [0x61, zp], 6, false⟩,
   ⟨.adcZeroPage zp, .zeroPage zp, [0x65, zp], 3, false⟩,
   ⟨.adcImmediate imm, .immediate imm, [0x69, imm], 2, false⟩,
   ⟨.adcAbsolute addr, .absolute addr, [0x6D, loByte addr, hiByte addr], 4, false⟩,
   ⟨.adcIndirectIndexed zp, .indirectIndexed zp, [0x71, zp], 5, true⟩,
   ⟨.adcZeroPageX zp, .zeroPageX zp, [0x75, zp], 4, false⟩,
   ⟨.adcAbsoluteY addr, .absoluteY addr, [0x79, loByte addr, hiByte addr], 4, true⟩,
   ⟨.adcAbsoluteX addr, .absoluteX addr, [0x7D, loByte addr, hiByte addr], 4, true⟩]

/-- ADC in every mode: A becomes A + M + C modulo 256, C is 1 exactly when the unsigned sum is at least 256, V is 1 exactly when the signed sum lies outside -128..127, Z and N follow the result, whatever D holds; no other register, flag or byte changes. All encodings of the rule: adcIndexedIndirect, adcZeroPage, adcImmediate, adcAbsolute, adcIndirectIndexed, adcZeroPageX, adcAbsoluteY, adcAbsoluteX. -/
def Obligations.AdcAddsWithCarry : Prop :=
  ∀ (imm : Byte) (zp : Byte) (addr : Word) (s : State), ∀ f ∈ adcForms imm zp addr,
    encode f.instr = f.bytes ∧
    ∃ v crossed p' d, readOperand f.operand s = .ok (v, crossed) ∧
      StatusAfter s.p p' (znvcFlags (BitVec.ofNat 8 (s.a.toNat + v.toNat + (s.flag .C).toNat))
        (decide (256 ≤ s.a.toNat + v.toNat + (s.flag .C).toNat))
        (decide (s.a.toInt + v.toInt + (s.flag .C).toNat < -128 ∨ 127 < s.a.toInt + v.toInt + (s.flag .C).toNat))) ∧
      exec f.instr s = .next 
        { f.after s p' crossed 0 d with a := BitVec.ofNat 8 (s.a.toNat + v.toNat + (s.flag .C).toNat) }

/-- The encodings of SBC (R231). -/
def sbcForms (imm : Byte) (zp : Byte) (addr : Word) : List Form :=
  [⟨.sbcIndexedIndirect zp, .indexedIndirect zp, [0xE1, zp], 6, false⟩,
   ⟨.sbcZeroPage zp, .zeroPage zp, [0xE5, zp], 3, false⟩,
   ⟨.sbcImmediate imm, .immediate imm, [0xE9, imm], 2, false⟩,
   ⟨.sbcAbsolute addr, .absolute addr, [0xED, loByte addr, hiByte addr], 4, false⟩,
   ⟨.sbcIndirectIndexed zp, .indirectIndexed zp, [0xF1, zp], 5, true⟩,
   ⟨.sbcZeroPageX zp, .zeroPageX zp, [0xF5, zp], 4, false⟩,
   ⟨.sbcAbsoluteY addr, .absoluteY addr, [0xF9, loByte addr, hiByte addr], 4, true⟩,
   ⟨.sbcAbsoluteX addr, .absoluteX addr, [0xFD, loByte addr, hiByte addr], 4, true⟩]

/-- SBC in every mode: A becomes A - M - (1 - C) modulo 256, C is 1 exactly when that exact difference is not negative, V is 1 exactly when the signed difference lies outside -128..127, Z and N follow the result, whatever D holds; no other register, flag or byte changes. All encodings of the rule: sbcIndexedIndirect, sbcZeroPage, sbcImmediate, sbcAbsolute, sbcIndirectIndexed, sbcZeroPageX, sbcAbsoluteY, sbcAbsoluteX. -/
def Obligations.SbcSubtractsWithBorrow : Prop :=
  ∀ (imm : Byte) (zp : Byte) (addr : Word) (s : State), ∀ f ∈ sbcForms imm zp addr,
    encode f.instr = f.bytes ∧
    ∃ v crossed p' d, readOperand f.operand s = .ok (v, crossed) ∧
      StatusAfter s.p p' (znvcFlags (BitVec.ofInt 8 (s.a.toNat - v.toNat - (1 - (s.flag .C).toNat)))
        (decide (0 ≤ (s.a.toNat : Int) - v.toNat - (1 - (s.flag .C).toNat)))
        (decide (s.a.toInt - v.toInt - (1 - (s.flag .C).toNat) < -128 ∨ 127 < s.a.toInt - v.toInt - (1 - (s.flag .C).toNat)))) ∧
      exec f.instr s = .next 
        { f.after s p' crossed 0 d with a := BitVec.ofInt 8 (s.a.toNat - v.toNat - (1 - (s.flag .C).toNat)) }

/-- The encodings of AND (R232). -/
def andForms (imm : Byte) (zp : Byte) (addr : Word) : List Form :=
  [⟨.andIndexedIndirect zp, .indexedIndirect zp, [0x21, zp], 6, false⟩,
   ⟨.andZeroPage zp, .zeroPage zp, [0x25, zp], 3, false⟩,
   ⟨.andImmediate imm, .immediate imm, [0x29, imm], 2, false⟩,
   ⟨.andAbsolute addr, .absolute addr, [0x2D, loByte addr, hiByte addr], 4, false⟩,
   ⟨.andIndirectIndexed zp, .indirectIndexed zp, [0x31, zp], 5, true⟩,
   ⟨.andZeroPageX zp, .zeroPageX zp, [0x35, zp], 4, false⟩,
   ⟨.andAbsoluteY addr, .absoluteY addr, [0x39, loByte addr, hiByte addr], 4, true⟩,
   ⟨.andAbsoluteX addr, .absoluteX addr, [0x3D, loByte addr, hiByte addr], 4, true⟩]

/-- The encodings of ORA (R233). -/
def oraForms (imm : Byte) (zp : Byte) (addr : Word) : List Form :=
  [⟨.oraIndexedIndirect zp, .indexedIndirect zp, [0x01, zp], 6, false⟩,
   ⟨.oraZeroPage zp, .zeroPage zp, [0x05, zp], 3, false⟩,
   ⟨.oraImmediate imm, .immediate imm, [0x09, imm], 2, false⟩,
   ⟨.oraAbsolute addr, .absolute addr, [0x0D, loByte addr, hiByte addr], 4, false⟩,
   ⟨.oraIndirectIndexed zp, .indirectIndexed zp, [0x11, zp], 5, true⟩,
   ⟨.oraZeroPageX zp, .zeroPageX zp, [0x15, zp], 4, false⟩,
   ⟨.oraAbsoluteY addr, .absoluteY addr, [0x19, loByte addr, hiByte addr], 4, true⟩,
   ⟨.oraAbsoluteX addr, .absoluteX addr, [0x1D, loByte addr, hiByte addr], 4, true⟩]

/-- The encodings of EOR (R234). -/
def eorForms (imm : Byte) (zp : Byte) (addr : Word) : List Form :=
  [⟨.eorIndexedIndirect zp, .indexedIndirect zp, [0x41, zp], 6, false⟩,
   ⟨.eorZeroPage zp, .zeroPage zp, [0x45, zp], 3, false⟩,
   ⟨.eorImmediate imm, .immediate imm, [0x49, imm], 2, false⟩,
   ⟨.eorAbsolute addr, .absolute addr, [0x4D, loByte addr, hiByte addr], 4, false⟩,
   ⟨.eorIndirectIndexed zp, .indirectIndexed zp, [0x51, zp], 5, true⟩,
   ⟨.eorZeroPageX zp, .zeroPageX zp, [0x55, zp], 4, false⟩,
   ⟨.eorAbsoluteY addr, .absoluteY addr, [0x59, loByte addr, hiByte addr], 4, true⟩,
   ⟨.eorAbsoluteX addr, .absoluteX addr, [0x5D, loByte addr, hiByte addr], 4, true⟩]

/-- AND, ORA and EOR in every mode: A becomes the bitwise AND, OR or exclusive OR of A and the operand, Z and N follow it, C and V and every other register, flag and byte are unchanged; one more cycle on a page cross where the rule says +p. All encodings of the rules: andIndexedIndirect, andZeroPage, andImmediate, andAbsolute, andIndirectIndexed, andZeroPageX, andAbsoluteY, andAbsoluteX, oraIndexedIndirect, oraZeroPage, oraImmediate, oraAbsolute, oraIndirectIndexed, oraZeroPageX, oraAbsoluteY, oraAbsoluteX, eorIndexedIndirect, eorZeroPage, eorImmediate, eorAbsolute, eorIndirectIndexed, eorZeroPageX, eorAbsoluteY, eorAbsoluteX. -/
def Obligations.LogicIntoA : Prop :=
  (∀ (imm : Byte) (zp : Byte) (addr : Word) (s : State), ∀ f ∈ andForms imm zp addr,
    encode f.instr = f.bytes ∧
    ∃ v crossed p' d, readOperand f.operand s = .ok (v, crossed) ∧
      StatusAfter s.p p' (znFlags (s.a &&& v)) ∧
      exec f.instr s = .next { f.after s p' crossed 0 d with a := s.a &&& v }) ∧
  (∀ (imm : Byte) (zp : Byte) (addr : Word) (s : State), ∀ f ∈ oraForms imm zp addr,
    encode f.instr = f.bytes ∧
    ∃ v crossed p' d, readOperand f.operand s = .ok (v, crossed) ∧
      StatusAfter s.p p' (znFlags (s.a ||| v)) ∧
      exec f.instr s = .next { f.after s p' crossed 0 d with a := s.a ||| v }) ∧
  (∀ (imm : Byte) (zp : Byte) (addr : Word) (s : State), ∀ f ∈ eorForms imm zp addr,
    encode f.instr = f.bytes ∧
    ∃ v crossed p' d, readOperand f.operand s = .ok (v, crossed) ∧
      StatusAfter s.p p' (znFlags (s.a ^^^ v)) ∧
      exec f.instr s = .next { f.after s p' crossed 0 d with a := s.a ^^^ v })

/-- The encodings of BIT (R235). -/
def bitForms (zp : Byte) (addr : Word) : List Form :=
  [⟨.bitZeroPage zp, .zeroPage zp, [0x24, zp], 3, false⟩,
   ⟨.bitAbsolute addr, .absolute addr, [0x2C, loByte addr, hiByte addr], 4, false⟩]

/-- BIT in both modes: Z is 1 exactly when A AND M is 0, N is bit 7 of M, V is bit 6 of M; A, C, memory and everything else are unchanged. All encodings of the rule: bitZeroPage, bitAbsolute. -/
def Obligations.BitTestsMemory : Prop :=
  ∀ (zp : Byte) (addr : Word) (s : State), ∀ f ∈ bitForms zp addr,
    encode f.instr = f.bytes ∧
    ∃ v crossed p' d, readOperand f.operand s = .ok (v, crossed) ∧
      StatusAfter s.p p' (fun g => match g with
        | .Z => some (decide (s.a &&& v = 0))
        | .N => some (v.getLsbD 7)
        | .V => some (v.getLsbD 6)
        | .B | .D | .I | .C => none) ∧
      exec f.instr s = .next (f.after s p' crossed 0 d)

/-- The encodings of ASL (R250). -/
def aslForms (zp : Byte) (addr : Word) : List Form :=
  [⟨.aslZeroPage zp, .zeroPage zp, [0x06, zp], 5, false⟩,
   ⟨.aslAccumulator, .accumulator, [0x0A], 2, false⟩,
   ⟨.aslAbsolute addr, .absolute addr, [0x0E, loByte addr, hiByte addr], 6, false⟩,
   ⟨.aslZeroPageX zp, .zeroPageX zp, [0x16, zp], 6, false⟩,
   ⟨.aslAbsoluteX addr, .absoluteX addr, [0x1E, loByte addr, hiByte addr], 7, false⟩]

/-- The encodings of LSR (R251). -/
def lsrForms (zp : Byte) (addr : Word) : List Form :=
  [⟨.lsrZeroPage zp, .zeroPage zp, [0x46, zp], 5, false⟩,
   ⟨.lsrAccumulator, .accumulator, [0x4A], 2, false⟩,
   ⟨.lsrAbsolute addr, .absolute addr, [0x4E, loByte addr, hiByte addr], 6, false⟩,
   ⟨.lsrZeroPageX zp, .zeroPageX zp, [0x56, zp], 6, false⟩,
   ⟨.lsrAbsoluteX addr, .absoluteX addr, [0x5E, loByte addr, hiByte addr], 7, false⟩]

/-- The encodings of ROL (R252). -/
def rolForms (zp : Byte) (addr : Word) : List Form :=
  [⟨.rolZeroPage zp, .zeroPage zp, [0x26, zp], 5, false⟩,
   ⟨.rolAccumulator, .accumulator, [0x2A], 2, false⟩,
   ⟨.rolAbsolute addr, .absolute addr, [0x2E, loByte addr, hiByte addr], 6, false⟩,
   ⟨.rolZeroPageX zp, .zeroPageX zp, [0x36, zp], 6, false⟩,
   ⟨.rolAbsoluteX addr, .absoluteX addr, [0x3E, loByte addr, hiByte addr], 7, false⟩]

/-- The encodings of ROR (R253). -/
def rorForms (zp : Byte) (addr : Word) : List Form :=
  [⟨.rorZeroPage zp, .zeroPage zp, [0x66, zp], 5, false⟩,
   ⟨.rorAccumulator, .accumulator, [0x6A], 2, false⟩,
   ⟨.rorAbsolute addr, .absolute addr, [0x6E, loByte addr, hiByte addr], 6, false⟩,
   ⟨.rorZeroPageX zp, .zeroPageX zp, [0x76, zp], 6, false⟩,
   ⟨.rorAbsoluteX addr, .absoluteX addr, [0x7E, loByte addr, hiByte addr], 7, false⟩]

/-- The encodings of INC (R270). -/
def incForms (zp : Byte) (addr : Word) : List Form :=
  [⟨.incZeroPage zp, .zeroPage zp, [0xE6, zp], 5, false⟩,
   ⟨.incAbsolute addr, .absolute addr, [0xEE, loByte addr, hiByte addr], 6, false⟩,
   ⟨.incZeroPageX zp, .zeroPageX zp, [0xF6, zp], 6, false⟩,
   ⟨.incAbsoluteX addr, .absoluteX addr, [0xFE, loByte addr, hiByte addr], 7, false⟩]

/-- The encodings of DEC (R271). -/
def decForms (zp : Byte) (addr : Word) : List Form :=
  [⟨.decZeroPage zp, .zeroPage zp, [0xC6, zp], 5, false⟩,
   ⟨.decAbsolute addr, .absolute addr, [0xCE, loByte addr, hiByte addr], 6, false⟩,
   ⟨.decZeroPageX zp, .zeroPageX zp, [0xD6, zp], 6, false⟩,
   ⟨.decAbsoluteX addr, .absoluteX addr, [0xDE, loByte addr, hiByte addr], 7, false⟩]

/-- In every mode ASL makes the operand v into 2v modulo 256 with C bit 7 of v, and LSR makes it v / 2 with C bit 0 of v (so N is 0). Z and N follow the result, V is unchanged. The accumulator form writes A; every other form writes the cell of its effective address and no other byte. The cycles are those of the encoding with no page-cross penalty; nothing else changes. All encodings of the rules: aslZeroPage, aslAccumulator, aslAbsolute, aslZeroPageX, aslAbsoluteX, lsrZeroPage, lsrAccumulator, lsrAbsolute, lsrZeroPageX, lsrAbsoluteX. -/
def Obligations.ShiftsMoveOneBit : Prop :=
  (∀ (zp : Byte) (addr : Word) (s : State), s.mem.wf = true → ∀ f ∈ aslForms zp addr,
    encode f.instr = f.bytes ∧
    Modifies f s (fun v => BitVec.ofNat 8 (2 * v.toNat))
      (fun v => zncFlags (BitVec.ofNat 8 (2 * v.toNat)) (decide (128 ≤ v.toNat)))) ∧
  (∀ (zp : Byte) (addr : Word) (s : State), s.mem.wf = true → ∀ f ∈ lsrForms zp addr,
    encode f.instr = f.bytes ∧
    Modifies f s (fun v => BitVec.ofNat 8 (v.toNat / 2))
      (fun v => zncFlags (BitVec.ofNat 8 (v.toNat / 2)) (decide (v.toNat % 2 = 1))))

/-- In every mode ROL makes the operand v into 2v + C modulo 256 with C bit 7 of v, and ROR makes it v / 2 + 128 C with C bit 0 of v. Z and N follow the result, V is unchanged. The accumulator form writes A; every other form writes the cell of its effective address and no other byte. The cycles are those of the encoding with no page-cross penalty; nothing else changes. All encodings of the rules: rolZeroPage, rolAccumulator, rolAbsolute, rolZeroPageX, rolAbsoluteX, rorZeroPage, rorAccumulator, rorAbsolute, rorZeroPageX, rorAbsoluteX. -/
def Obligations.RotatesGoThroughCarry : Prop :=
  (∀ (zp : Byte) (addr : Word) (s : State), s.mem.wf = true → ∀ f ∈ rolForms zp addr,
    encode f.instr = f.bytes ∧
    Modifies f s (fun v => BitVec.ofNat 8 (2 * v.toNat + (s.flag .C).toNat))
      (fun v => zncFlags (BitVec.ofNat 8 (2 * v.toNat + (s.flag .C).toNat)) (decide (128 ≤ v.toNat)))) ∧
  (∀ (zp : Byte) (addr : Word) (s : State), s.mem.wf = true → ∀ f ∈ rorForms zp addr,
    encode f.instr = f.bytes ∧
    Modifies f s (fun v => BitVec.ofNat 8 (v.toNat / 2 + 128 * (s.flag .C).toNat))
      (fun v => zncFlags (BitVec.ofNat 8 (v.toNat / 2 + 128 * (s.flag .C).toNat)) (decide (v.toNat % 2 = 1))))

/-- INC in every mode makes the byte v at the effective address v + 1 modulo 256, DEC makes it v - 1, by one read and one write; Z and N follow the result, C and V are unchanged; no register and no other byte changes. All encodings of the rules: incZeroPage, incAbsolute, incZeroPageX, incAbsoluteX, decZeroPage, decAbsolute, decZeroPageX, decAbsoluteX. -/
def Obligations.MemoryStepsByOne : Prop :=
  (∀ (zp : Byte) (addr : Word) (s : State), s.mem.wf = true → ∀ f ∈ incForms zp addr,
    encode f.instr = f.bytes ∧
    Modifies f s (fun v => BitVec.ofNat 8 (v.toNat + 1))
      (fun v => znFlags (BitVec.ofNat 8 (v.toNat + 1)))) ∧
  (∀ (zp : Byte) (addr : Word) (s : State), s.mem.wf = true → ∀ f ∈ decForms zp addr,
    encode f.instr = f.bytes ∧
    Modifies f s (fun v => BitVec.ofNat 8 (v.toNat + 255))
      (fun v => znFlags (BitVec.ofNat 8 (v.toNat + 255))))

/-- The encodings of CMP (R260). -/
def cmpForms (imm : Byte) (zp : Byte) (addr : Word) : List Form :=
  [⟨.cmpIndexedIndirect zp, .indexedIndirect zp, [0xC1, zp], 6, false⟩,
   ⟨.cmpZeroPage zp, .zeroPage zp, [0xC5, zp], 3, false⟩,
   ⟨.cmpImmediate imm, .immediate imm, [0xC9, imm], 2, false⟩,
   ⟨.cmpAbsolute addr, .absolute addr, [0xCD, loByte addr, hiByte addr], 4, false⟩,
   ⟨.cmpIndirectIndexed zp, .indirectIndexed zp, [0xD1, zp], 5, true⟩,
   ⟨.cmpZeroPageX zp, .zeroPageX zp, [0xD5, zp], 4, false⟩,
   ⟨.cmpAbsoluteY addr, .absoluteY addr, [0xD9, loByte addr, hiByte addr], 4, true⟩,
   ⟨.cmpAbsoluteX addr, .absoluteX addr, [0xDD, loByte addr, hiByte addr], 4, true⟩]

/-- The encodings of CPX (R261). -/
def cpxForms (imm : Byte) (zp : Byte) (addr : Word) : List Form :=
  [⟨.cpxImmediate imm, .immediate imm, [0xE0, imm], 2, false⟩,
   ⟨.cpxZeroPage zp, .zeroPage zp, [0xE4, zp], 3, false⟩,
   ⟨.cpxAbsolute addr, .absolute addr, [0xEC, loByte addr, hiByte addr], 4, false⟩]

/-- The encodings of CPY (R262). -/
def cpyForms (imm : Byte) (zp : Byte) (addr : Word) : List Form :=
  [⟨.cpyImmediate imm, .immediate imm, [0xC0, imm], 2, false⟩,
   ⟨.cpyZeroPage zp, .zeroPage zp, [0xC4, zp], 3, false⟩,
   ⟨.cpyAbsolute addr, .absolute addr, [0xCC, loByte addr, hiByte addr], 4, false⟩]

/-- CMP, CPX and CPY in every mode: C is 1 exactly when A, X or Y >= M as unsigned numbers, Z is 1 exactly when they are equal, N is bit 7 of the difference modulo 256; V, every register and every byte of memory are unchanged; one more cycle on a page cross where the rule says +p. All encodings of the rules: cmpIndexedIndirect, cmpZeroPage, cmpImmediate, cmpAbsolute, cmpIndirectIndexed, cmpZeroPageX, cmpAbsoluteY, cmpAbsoluteX, cpxImmediate, cpxZeroPage, cpxAbsolute, cpyImmediate, cpyZeroPage, cpyAbsolute. -/
def Obligations.ComparisonsWriteFlagsOnly : Prop :=
  (∀ (imm : Byte) (zp : Byte) (addr : Word) (s : State), ∀ f ∈ cmpForms imm zp addr,
    encode f.instr = f.bytes ∧
    ∃ v crossed p' d, readOperand f.operand s = .ok (v, crossed) ∧
      StatusAfter s.p p' (zncFlags (BitVec.ofInt 8 (s.a.toNat - v.toNat)) (decide (v.toNat ≤ s.a.toNat))) ∧
      (flagOf p' .Z = true ↔ s.a = v) ∧
      exec f.instr s = .next (f.after s p' crossed 0 d)) ∧
  (∀ (imm : Byte) (zp : Byte) (addr : Word) (s : State), ∀ f ∈ cpxForms imm zp addr,
    encode f.instr = f.bytes ∧
    ∃ v crossed p' d, readOperand f.operand s = .ok (v, crossed) ∧
      StatusAfter s.p p' (zncFlags (BitVec.ofInt 8 (s.x.toNat - v.toNat)) (decide (v.toNat ≤ s.x.toNat))) ∧
      (flagOf p' .Z = true ↔ s.x = v) ∧
      exec f.instr s = .next (f.after s p' crossed 0 d)) ∧
  (∀ (imm : Byte) (zp : Byte) (addr : Word) (s : State), ∀ f ∈ cpyForms imm zp addr,
    encode f.instr = f.bytes ∧
    ∃ v crossed p' d, readOperand f.operand s = .ok (v, crossed) ∧
      StatusAfter s.p p' (zncFlags (BitVec.ofInt 8 (s.y.toNat - v.toNat)) (decide (v.toNat ≤ s.y.toNat))) ∧
      (flagOf p' .Z = true ↔ s.y = v) ∧
      exec f.instr s = .next (f.after s p' crossed 0 d))

/-- INX and INY add 1 to X and Y modulo 256, DEX and DEY subtract 1; Z and N follow the result, C and V are unchanged; one byte, 2 cycles, nothing else changes. -/
def Obligations.IndexRegistersStepByOne : Prop :=
  ∀ (s : State),
    (encode .inx = [0xE8] ∧ ∃ p' d, StatusAfter s.p p' (znFlags (BitVec.ofNat 8 (s.x.toNat + 1))) ∧
      exec .inx s = .next { Form.after ⟨.inx, .implied, [0xE8], 2, false⟩ s p' false 0 d with x := BitVec.ofNat 8 (s.x.toNat + 1) }) ∧
    (encode .iny = [0xC8] ∧ ∃ p' d, StatusAfter s.p p' (znFlags (BitVec.ofNat 8 (s.y.toNat + 1))) ∧
      exec .iny s = .next { Form.after ⟨.iny, .implied, [0xC8], 2, false⟩ s p' false 0 d with y := BitVec.ofNat 8 (s.y.toNat + 1) }) ∧
    (encode .dex = [0xCA] ∧ ∃ p' d, StatusAfter s.p p' (znFlags (BitVec.ofNat 8 (s.x.toNat + 255))) ∧
      exec .dex s = .next { Form.after ⟨.dex, .implied, [0xCA], 2, false⟩ s p' false 0 d with x := BitVec.ofNat 8 (s.x.toNat + 255) }) ∧
    (encode .dey = [0x88] ∧ ∃ p' d, StatusAfter s.p p' (znFlags (BitVec.ofNat 8 (s.y.toNat + 255))) ∧
      exec .dey s = .next { Form.after ⟨.dey, .implied, [0x88], 2, false⟩ s p' false 0 d with y := BitVec.ofNat 8 (s.y.toNat + 255) })

/-- PHA writes A, and PHP writes P with bits 4 and 5 set, at 0x0100 + SP; SP is decremented modulo 256; no flag, no other register and no other byte changes (P keeps its own bit 4); 1 byte, 3 cycles. -/
def Obligations.PushesWriteTheStack : Prop :=
  ∀ (s : State), s.mem.wf = true →
    (encode .pha = [0x48] ∧ ∃ m d, StoredAfter s m [(0x0100 + zext16 s.sp, s.a)] ∧
      exec .pha s = .next { Form.after ⟨.pha, .implied, [0x48], 3, false⟩ s s.p false 0 d with sp := s.sp - 1, mem := m }) ∧
    (encode .php = [0x08] ∧ ∃ m d, StoredAfter s m [(0x0100 + zext16 s.sp, s.p ||| 0x30)] ∧
      exec .php s = .next { Form.after ⟨.php, .implied, [0x08], 3, false⟩ s s.p false 0 d with sp := s.sp - 1, mem := m })

/-- PLA increments SP modulo 256, loads A with the byte at 0x0100 + SP, sets Z and N from it and changes nothing else; 1 byte, 4 cycles. -/
def Obligations.PlaPullsA : Prop :=
  ∀ (s : State),
    (encode .pla = [0x68] ∧ ∃ p' d, StatusAfter s.p p' (znFlags (s.stored (0x0100 + zext16 (s.sp + 1)))) ∧
      exec .pla s = .next { Form.after ⟨.pla, .implied, [0x68], 4, false⟩ s p' false 0 d with
        sp := s.sp + 1, a := s.stored (0x0100 + zext16 (s.sp + 1)) })

/-- PLP increments SP modulo 256 and takes N, V, D, I, Z, C from the byte at 0x0100 + SP; the stored B is unchanged and bit 5 is 1; irq_inhibit takes the I from before the instruction; nothing else changes; 1 byte, 4 cycles. -/
def Obligations.PlpPullsStatusLate : Prop :=
  ∀ (s : State),
    (encode .plp = [0x28] ∧ ∃ p' d, StatusAfter s.p p' (pulledFlags (s.stored (0x0100 + zext16 (s.sp + 1)))) ∧
      exec .plp s = .next { Form.after ⟨.plp, .implied, [0x28], 4, false⟩ s p' false 0 d with
        sp := s.sp + 1, irqInhibit := s.flag .I })

/-- The encodings of JMP (R290). -/
def jmpForms (addr : Word) (ptr : Word) : List Form :=
  [⟨.jmpAbsolute addr, .absolute addr, [0x4C, loByte addr, hiByte addr], 3, false⟩,
   ⟨.jmpIndirect ptr, .indirect ptr, [0x6C, loByte ptr, hiByte ptr], 5, false⟩]

/-- JMP Absolute sets PC to its operand word, 3 bytes and 3 cycles; JMP Indirect sets PC to the word the pointer gives (the high byte read from the page of the pointer), 3 bytes and 5 cycles; no flag, register or byte changes. -/
def Obligations.JmpSetsPC : Prop :=
  ∀ (addr : Word) (ptr : Word) (s : State), ∀ f ∈ jmpForms addr ptr,
    encode f.instr = f.bytes ∧
    ∃ ea d, getAddress f.operand s = .ok ea ∧ exec f.instr s = .next { f.after s s.p false 0 d with pc := ea.addr }

/-- JSR writes the high byte of pc0 + 2 at 0x0100 + SP and its low byte at 0x0100 + SP - 1 (SP modulo 256), drops SP by two and sets PC to the operand word; no flag, other register or other byte changes; 3 bytes, 6 cycles. -/
def Obligations.JsrPushesItsLastByte : Prop :=
  ∀ (addr : Word) (s : State), s.mem.wf = true →
    encode (.jsr addr) = [0x20, loByte addr, hiByte addr] ∧
    ∃ m d, StoredAfter s m
        [(0x0100 + zext16 s.sp, hiByte (s.pc + 2)), (0x0100 + zext16 (s.sp - 1), loByte (s.pc + 2))] ∧
      exec (.jsr addr) s = .next { Form.after ⟨.jsr addr, .absolute addr, [0x20, loByte addr, hiByte addr], 6, false⟩ s s.p false 0 d with pc := addr, sp := s.sp - 2, mem := m }

/-- RTS pulls the low byte at 0x0100 + SP + 1 and the high byte at 0x0100 + SP + 2 (SP modulo 256), raises SP by two and sets PC to that word plus 1 modulo 65536; nothing else changes; 1 byte, 6 cycles. -/
def Obligations.RtsReturnsPastThePulledAddress : Prop :=
  ∀ (s : State),
    encode .rts = [0x60] ∧
    ∃ d, exec .rts s = .next { Form.after ⟨.rts, .implied, [0x60], 6, false⟩ s s.p false 0 d with
      sp := s.sp + 2
      pc := BitVec.ofNat 16 (256 * (s.stored (0x0100 + zext16 (s.sp + 2))).toNat + (s.stored (0x0100 + zext16 (s.sp + 1))).toNat + 1) }

/-- RTI takes N, V, D, I, Z, C from the byte at 0x0100 + SP + 1 (the stored B is kept, bit 5 is 1), sets PC to the word pulled after it with no 1 added, raises SP by three and leaves irq_inhibit at the restored I; nothing else changes; 1 byte, 6 cycles. -/
def Obligations.RtiRestoresStatusAndPC : Prop :=
  ∀ (s : State),
    encode .rti = [0x40] ∧
    ∃ p' d, StatusAfter s.p p' (pulledFlags (s.stored (0x0100 + zext16 (s.sp + 1)))) ∧
      exec .rti s = .next { Form.after ⟨.rti, .implied, [0x40], 6, false⟩ s p' false 0 d with
        sp := s.sp + 3
        pc := BitVec.ofNat 16 (256 * (s.stored (0x0100 + zext16 (s.sp + 3))).toNat + (s.stored (0x0100 + zext16 (s.sp + 2))).toNat) }

/-- BRK, whatever its padding byte and whatever I holds, writes the high and low bytes of pc0 + 2 and P with bits 4 and 5 set at 0x0100 + SP, SP - 1 and SP - 2 (modulo 256), drops SP by three, sets I and loads PC from the word at 0xFFFE; no other flag, register or byte changes; 2 bytes, 7 cycles. -/
def Obligations.BrkEntersTheHandler : Prop :=
  ∀ (pad : Byte) (s : State), s.mem.wf = true →
    encode (.brk pad) = [0x00, pad] ∧
    ∃ p' m d, StatusAfter s.p p' (oneFlag .I true) ∧
      StoredAfter s m
        [(0x0100 + zext16 s.sp, hiByte (s.pc + 2)), (0x0100 + zext16 (s.sp - 1), loByte (s.pc + 2)),
         (0x0100 + zext16 (s.sp - 2), s.p ||| 0x30)] ∧
      exec (.brk pad) s = .next { Form.after ⟨.brk pad, .padded pad, [0x00, pad], 7, false⟩ s p' false 0 d with
        pc := s.readWord .vectorLo .vectorHi 0xFFFE, sp := s.sp - 3, mem := m }

/-- The eight branches with the condition each tests (R301 to R308). -/
def branchForms (off : Byte) (s : State) : List (Form × Bool) :=
  [(⟨.bpl off, .relative off, [0x10, off], 2, false⟩, !s.flag .N),
   (⟨.bmi off, .relative off, [0x30, off], 2, false⟩, s.flag .N),
   (⟨.bvc off, .relative off, [0x50, off], 2, false⟩, !s.flag .V),
   (⟨.bvs off, .relative off, [0x70, off], 2, false⟩, s.flag .V),
   (⟨.bcc off, .relative off, [0x90, off], 2, false⟩, !s.flag .C),
   (⟨.bcs off, .relative off, [0xB0, off], 2, false⟩, s.flag .C),
   (⟨.bne off, .relative off, [0xD0, off], 2, false⟩, !s.flag .Z),
   (⟨.beq off, .relative off, [0xF0, off], 2, false⟩, s.flag .Z)]

/-- BPL, BMI, BVC, BVS, BCC, BCS, BNE and BEQ, each on its flag: when the condition holds, PC becomes the address of the next instruction plus the signed offset modulo 65536 and the step costs 3 cycles, or 4 when that lies in another page than the next instruction; when it does not hold, PC is the next instruction and the step costs 2 cycles. No flag, other register or byte changes. -/
def Obligations.BranchesAddTheOffset : Prop :=
  ∀ (off : Byte) (s : State), ∀ fc ∈ branchForms off s,
    encode fc.1.instr = fc.1.bytes ∧
    ∃ d, let target : Word := s.pc + 2 + BitVec.ofInt 16 off.toInt
    (fc.2 = true → exec fc.1.instr s = .next
      { fc.1.after s s.p false (if target.toNat / 256 = (s.pc + 2).toNat / 256 then 1 else 2) d with pc := target }) ∧
    (fc.2 = false → exec fc.1.instr s = .next (fc.1.after s s.p false 0 d))

/-- CLC clears C, SEC sets C, CLV clears V, CLD clears D and SED sets D; every other flag, register and byte is unchanged; 1 byte, 2 cycles. -/
def Obligations.FlagInstructionsWriteOneFlag : Prop :=
  ∀ (s : State),
    (encode .clc = [0x18] ∧ ∃ p' d, StatusAfter s.p p' (oneFlag .C false) ∧
      exec .clc s = .next (Form.after ⟨.clc, .implied, [0x18], 2, false⟩ s p' false 0 d)) ∧
    (encode .sec = [0x38] ∧ ∃ p' d, StatusAfter s.p p' (oneFlag .C true) ∧
      exec .sec s = .next (Form.after ⟨.sec, .implied, [0x38], 2, false⟩ s p' false 0 d)) ∧
    (encode .clv = [0xB8] ∧ ∃ p' d, StatusAfter s.p p' (oneFlag .V false) ∧
      exec .clv s = .next (Form.after ⟨.clv, .implied, [0xB8], 2, false⟩ s p' false 0 d)) ∧
    (encode .cld = [0xD8] ∧ ∃ p' d, StatusAfter s.p p' (oneFlag .D false) ∧
      exec .cld s = .next (Form.after ⟨.cld, .implied, [0xD8], 2, false⟩ s p' false 0 d)) ∧
    (encode .sed = [0xF8] ∧ ∃ p' d, StatusAfter s.p p' (oneFlag .D true) ∧
      exec .sed s = .next (Form.after ⟨.sed, .implied, [0xF8], 2, false⟩ s p' false 0 d))

/-- CLI clears I and SEI sets it; irq_inhibit takes the I from before the instruction, so after CLI with I = 1 a pending IRQ is not taken by the next step, and after SEI with I = 0 a pending IRQ is; every other flag, register and byte is unchanged; 1 byte, 2 cycles. -/
def Obligations.CliSeiMaskLate : Prop :=
  ∀ (s : State),
    (encode .cli = [0x58] ∧ ∃ p' d, StatusAfter s.p p' (oneFlag .I false) ∧
      exec .cli s = .next { Form.after ⟨.cli, .implied, [0x58], 2, false⟩ s p' false 0 d with irqInhibit := s.flag .I }) ∧
    (encode .sei = [0x78] ∧ ∃ p' d, StatusAfter s.p p' (oneFlag .I true) ∧
      exec .sei s = .next { Form.after ⟨.sei, .implied, [0x78], 2, false⟩ s p' false 0 d with irqInhibit := s.flag .I }) ∧
    (∀ t, exec .cli s = .next t → s.flag .I = true → s.halted = false → s.nmiPending = false → t.poll = .instruction) ∧
    (∀ t, exec .sei s = .next t → s.flag .I = false → s.halted = false → s.nmiPending = false → s.irqPending = true →
      t.poll = .irq)

/-- NOP advances PC by 1 and changes no flag, register or byte; 1 byte, 2 cycles. -/
def Obligations.NopOnlyAdvancesPC : Prop :=
  ∀ (s : State),
    (encode .nop = [0xEA] ∧ ∃ d,
      exec .nop s = .next (Form.after ⟨.nop, .implied, [0xEA], 2, false⟩ s s.p false 0 d))

/-- Each of the 105 undocumented opcodes, one byte long, leaves PC at the opcode, sets halted to 1 and returns the fault IllegalOpcode with the opcode and its address; no register, flag or byte is written; every later step is the fault Halted at that PC. (The fault is the return value of a next state: log entry 1.) -/
def Obligations.IllHaltsTheCore : Prop :=
  ∀ op ∈ undocumentedOpcodes, ∀ (s : State),
    encode (.ill op) = [op] ∧
    exec (.ill op) s = .next { s with
      halted := true, draws := s.draws + 1, returned := .fault (.illegalOpcode op s.pc) } ∧
    ∀ t, exec (.ill op) s = .next t → step t = .fault (.halted s.pc)

/-- For every state s and target, and every state t whose SP and memory are those JSR left (whatever else a subroutine changed), RTS at t answers a next state whose PC is pc0 + 3 and whose SP is that before the JSR. -/
def Obligations.RtsUndoesJsr : Prop :=
  ∀ (addr : Word) (s u t : State), s.mem.wf = true → exec (.jsr addr) s = .next u → t.sp = u.sp → t.mem = u.mem →
    ∃ r, exec .rts t = .next r ∧ r.pc = s.pc + 3 ∧ r.sp = s.sp ∧ r.mem = u.mem

/-- For every state s, vector, and state t whose SP and memory are those the interrupt sequence left (whatever else the handler changed), RTI at t answers a next state with the interrupted PC and SP and with N, V, D, I, Z and C as they were, and the very next poll uses that I. -/
def Obligations.RtiUndoesAnInterrupt : Prop :=
  ∀ (v : Word) (s t : State), s.mem.wf = true →
    t.sp = (interruptSequence v s).sp → t.mem = (interruptSequence v s).mem →
    ∃ r, exec .rti t = .next r ∧ r.pc = s.pc ∧ r.sp = s.sp ∧ r.irqInhibit = s.flag .I ∧
      ∀ f : Flag, f ≠ .B → r.flag f = s.flag f

/-- reset() sets SP to 0xFD and P to 0x24, clears nmi_pending, irq_pending and halted, sets irq_inhibit, loads PC from the word at 0xFFFC and returns 7; A, X and Y keep their values, and no byte of memory changes but the three at 0x0100 + ((SP0 - k) mod 256), k = 0, 1, 2, of whose values nothing is said. -/
def Obligations.ResetCallEffect : Prop :=
  ∀ (s : State), s.mem.wf = true →
    ∃ m d, (∀ b : Word, (∀ k < 3, cellKey b ≠ cellKey (BitVec.ofNat 16 (0x0100 + (s.sp.toNat + 256 - k) % 256))) →
        m.read (cellKey b) = s.stored b) ∧
      resetCall s =
        { s with
          sp := 0xFD
          p := 0x24
          nmiPending := false
          irqPending := false
          irqInhibit := true
          halted := false
          pc := s.readWord .vectorLo .vectorHi 0xFFFC
          mem := m
          draws := d
          returned := .cycles 7 }

/-- At power-on A, X, Y, SP are 0, PC is 0x0000, P is 0x20, nothing is pending, irq_inhibit is 1 and the core is not halted; every address below 0x4020 holds 0x00 and every address from 0x4020 on holds the byte of the image at its offset. -/
def Obligations.PowerOnState : Prop :=
  ∀ (bus : Bus) (image : Nat → Byte),
    ∃ m d r, powerOn bus image =
        { a := 0, x := 0, y := 0, pc := 0, sp := 0, p := 0x20, nmiPending := false, irqPending := false,
          irqInhibit := true, halted := false, mem := m, bus := bus, draws := d, returned := r } ∧
      ∀ b : Word, m.read (cellKey b) = if 0x4020 ≤ b then image (b - 0x4020).toNat else 0x00

/-- The model's reset state is reset() of the power-on state on the passive platform with the all-zero image, but that the three stack bytes reset() leaves free hold 0x00 in it and the draw counter is 0. (The image, the zero bytes and the counter are the model's choices: log entries 2, 4 and 5; so no rule is cited for them.) -/
def Obligations.ResetStateIsPowerOnThenReset : Prop :=
  ∃ m, State.reset = { boot .passive (fun _ => 0x00) with mem := m, draws := 0 } ∧
    ∀ b : Word, cellKey b ≠ 0x0100 → cellKey b ≠ 0x01FE → cellKey b ≠ 0x01FF →
      m.read (cellKey b) = (boot .passive (fun _ => 0x00)).stored b

/-- On the passive platform, whatever the cartridge image, the first step from power-on writes 0x00, 0x02 and 0x30 to 0x0100, 0x01FF and 0x01FE, sets SP to 0xFD and P to 0x24, loads PC from the image's word at 0xFFFE and returns 7; nothing else changes. -/
def Obligations.StepBeforeReset : Prop :=
  ∀ image : Nat → Byte, ∃ m d,
    StoredAfter (powerOn .passive image) m [(0x0100, 0x00), (0x01FF, 0x02), (0x01FE, 0x30)] ∧
    step (powerOn .passive image) = .next
      { powerOn .passive image with
        pc := w16 (image 0xBFDF) (image 0xBFDE)
        sp := 0xFD
        p := 0x24
        irqInhibit := true
        mem := m
        draws := d
        returned := .cycles 7 }

/-- request_irq() sets irq_pending and request_nmi() sets nmi_pending; the call returns nothing and everything else, memory included, is as before; a second call has no further effect. -/
def Obligations.RequestsOnlyLatch : Prop :=
  ∀ (s : State),
    requestIrq s = { s with irqPending := true, returned := .nothing } ∧
    requestNmi s = { s with nmiPending := true, returned := .nothing } ∧
    requestIrq (requestIrq s) = requestIrq s ∧ requestNmi (requestNmi s) = requestNmi s
end

