-- ==== Sys2Proof/Laws/Alu.lean ====
section
/-! SUPPORT. The alu's outputs as exact arithmetic. -/

namespace Sys2Proof.Machine

theorem carryNat_eq (c : Bool) : carryNat c = c.toNat := by cases c <;> rfl

theorem and_80_ne_zero (x : Byte) : decide ((x &&& 0x80) ≠ 0) = x.msb := by
  revert x; decide

/-- The overflow formula of R180 is the signed range test. -/
theorem aluAdd_v (a b : Byte) (c : Bool) :
    (aluAdd a b c).v = decide (a.toInt + b.toInt + c.toNat < -128 ∨ 127 < a.toInt + b.toInt + c.toNat) := by
  simp only [aluAdd, carryNat_eq, and_80_ne_zero, BitVec.msb_and, BitVec.msb_xor]
  have h1 := a.isLt
  have h2 := b.isLt
  have h3 : c.toNat ≤ 1 := by cases c <;> decide
  generalize hr : BitVec.ofNat 8 (a.toNat + b.toNat + c.toNat) = r
  have hr' : r.toNat = (a.toNat + b.toNat + c.toNat) % 256 := by rw [← hr]; simp
  rw [BitVec.msb_eq_decide, BitVec.msb_eq_decide, BitVec.msb_eq_decide, BitVec.toInt_eq_toNat_cond,
    BitVec.toInt_eq_toNat_cond, Bool.eq_iff_iff]
  simp only [decide_eq_true_eq, Bool.and_eq_true, bne_iff_ne, ne_eq, decide_eq_decide]
  split_ifs <;> omega

theorem xor_ff_toNat (b : Byte) : (b ^^^ 0xFF).toNat = 255 - b.toNat := by
  revert b; decide

theorem xor_ff_toInt (b : Byte) : (b ^^^ 0xFF).toInt = -1 - b.toInt := by
  revert b; decide

/-- The result of `alu_sub` is the exact difference, reduced (R182). -/
theorem aluSub_r (a b : Byte) (c : Bool) : (aluSub a b c).r = BitVec.ofInt 8 (a.toNat - b.toNat - (1 - c.toNat)) := by
  have h2 := b.isLt
  simp only [aluSub, aluAdd, carryNat_eq, xor_ff_toNat]
  apply BitVec.eq_of_toInt_eq
  rw [BitVec.toInt_ofInt, BitVec.toInt_ofNat']
  have : ((a.toNat + (255 - b.toNat) + c.toNat : Nat) : Int) = (a.toNat : Int) - b.toNat - (1 - c.toNat) + 256 := by
    omega
  rw [this]
  simp [Int.bmod]

/-- The carry of `alu_sub` is "no borrow" (R182). -/
theorem aluSub_c (a b : Byte) (c : Bool) :
    (aluSub a b c).c = decide (0 ≤ (a.toNat : Int) - b.toNat - (1 - c.toNat)) := by
  have h2 := b.isLt
  simp only [aluSub, aluAdd, carryNat_eq, xor_ff_toNat]
  rw [decide_eq_decide]
  omega

/-- The overflow of `alu_sub` is the signed range test (R182). -/
theorem aluSub_v (a b : Byte) (c : Bool) :
    (aluSub a b c).v = decide (a.toInt - b.toInt - (1 - c.toNat) < -128 ∨ 127 < a.toInt - b.toInt - (1 - c.toNat)) := by
  have e : ∀ n : Int, a.toInt + (-1 - b.toInt) + n = a.toInt - b.toInt - (1 - n) := by intro n; omega
  unfold aluSub
  rw [aluAdd_v, xor_ff_toInt, e]

/-- The difference of `alu_cmp` (R184). -/
theorem aluCmp_diff (r m : Byte) : (aluCmp r m).1 = BitVec.ofInt 8 (r.toNat - m.toNat) := by
  apply BitVec.eq_of_toInt_eq
  rw [BitVec.toInt_ofInt]
  show (r - m).toInt = _
  rw [BitVec.toInt_sub, BitVec.toInt_eq_toNat_bmod, BitVec.toInt_eq_toNat_bmod]
  simp

end Sys2Proof.Machine
end

