-- ==== Sys2Proof/Laws/Bits.lean ====
section
/-! SUPPORT. The laws of the byte-order and extension helpers. -/

namespace Sys2Proof

theorem w16_toNat (h l : Byte) : (w16 h l).toNat = 256 * h.toNat + l.toNat := by
  show (h ++ l).toNat = _
  rw [BitVec.toNat_append, ← Nat.shiftLeft_add_eq_or_of_lt l.isLt, Nat.shiftLeft_eq]
  omega

theorem hiByte_toNat (w : Word) : (hiByte w).toNat = w.toNat / 256 := by
  have := w.isLt
  simp [hiByte, BitVec.extractLsb'_toNat, Nat.shiftRight_eq_div_pow]
  omega

theorem loByte_toNat (w : Word) : (loByte w).toNat = w.toNat % 256 := by
  simp [loByte, BitVec.extractLsb'_toNat]

/-- A word is its two bytes (R13). -/
@[simp] theorem w16_hiByte_loByte (w : Word) : w16 (hiByte w) (loByte w) = w := by
  apply BitVec.eq_of_toNat_eq
  rw [w16_toNat, hiByte_toNat, loByte_toNat]
  omega

@[simp] theorem hiByte_w16 (h l : Byte) : hiByte (w16 h l) = h := by
  apply BitVec.eq_of_toNat_eq
  have := l.isLt
  rw [hiByte_toNat, w16_toNat]
  omega

@[simp] theorem loByte_w16 (h l : Byte) : loByte (w16 h l) = l := by
  apply BitVec.eq_of_toNat_eq
  have := l.isLt
  rw [loByte_toNat, w16_toNat]
  omega

@[simp] theorem zext16_toNat (b : Byte) : (zext16 b).toNat = b.toNat := by
  have := b.isLt
  simp [zext16]; omega

/-- Two words lie in one page exactly when their bits 15:8 agree (R146). -/
theorem page_eq_iff (v w : Word) : page v = page w ↔ v.toNat / 256 = w.toNat / 256 := by
  have key : ∀ w : Word, page w = w16 (hiByte w) 0 := by
    intro w
    apply BitVec.eq_of_getLsbD_eq
    intro i hi
    show (w &&& 0xFF00).getLsbD i = (hiByte w ++ (0 : Byte)).getLsbD i
    have hm : ∀ i < 16, (0xFF00 : Word).getLsbD i = decide (8 ≤ i) := by decide
    rw [BitVec.getLsbD_and, hm i hi, BitVec.getLsbD_append, hiByte, BitVec.getLsbD_extractLsb']
    by_cases h : i < 8
    · have h8 : ¬ 8 ≤ i := by omega
      simp [h, h8]
    · have h1 : 8 ≤ i := by omega
      have h2 : i - 8 < 8 := by omega
      have h3 : 8 + (i - 8) = i := by omega
      simp [h, h1, h2, h3]
  rw [key, key]
  constructor
  · intro h
    have := congrArg hiByte h
    rw [hiByte_w16, hiByte_w16] at this
    rw [← hiByte_toNat, ← hiByte_toNat, this]
  · intro h
    have : hiByte v = hiByte w := BitVec.eq_of_toNat_eq (by rw [hiByte_toNat, hiByte_toNat, h])
    rw [this]

end Sys2Proof
end

