-- ==== Sys2Proof/Laws/Flags.lean ====
section
/-! SUPPORT. The laws of the status byte: what each operation on it does to each flag and to bit 5. -/

namespace Sys2Proof.Machine

/-- The bit of P a flag is (R39). -/
def Flag.bit (f : Flag) : Nat :=
  match f with
  | .N => 7
  | .V => 6
  | .B => 4
  | .D => 3
  | .I => 2
  | .Z => 1
  | .C => 0

theorem Flag.bit_lt (f : Flag) : f.bit < 8 := by cases f <;> decide

theorem Flag.bit_ne_five (f : Flag) : f.bit ≠ 5 := by cases f <;> decide

theorem Flag.bit_inj {f g : Flag} (h : f.bit = g.bit) : f = g := by
  cases f <;> cases g <;> first | rfl | exact absurd h (by decide)

theorem Flag.mask_getLsbD (f : Flag) (i : Nat) (hi : i < 8) : f.mask.getLsbD i = decide (i = f.bit) := by
  cases f <;> revert hi <;> revert i <;> decide

theorem flagOf_eq_getLsbD (p : Byte) (f : Flag) : flagOf p f = p.getLsbD f.bit := by
  cases f <;> revert p <;> decide

theorem byte_20_getLsbD (i : Nat) (hi : i < 8) : (0x20 : Byte).getLsbD i = decide (i = 5) := by
  revert i; decide

/-- One flag written: that flag takes the value, every other keeps its own (R190). -/
@[simp] theorem flagOf_withFlag (p : Byte) (f g : Flag) (b : Bool) :
    flagOf (withFlag p f b) g = if g = f then b else flagOf p g := by
  have h5 := g.bit_ne_five
  have hg := g.bit_lt
  have hiff : g.bit = f.bit ↔ g = f := ⟨Flag.bit_inj, fun h => h ▸ rfl⟩
  have h20 := byte_20_getLsbD g.bit hg
  have hm := f.mask_getLsbD g.bit hg
  have hw : (withFlag p f b).getLsbD g.bit = if g.bit = f.bit then b else p.getLsbD g.bit := by
    cases b <;>
      simp only [withFlag, Bool.false_eq_true, if_false, if_true, BitVec.getLsbD_or, BitVec.getLsbD_and,
        BitVec.getLsbD_not, h20, hm] <;>
      by_cases h : g.bit = f.bit <;> simp [h, h5, hg, f.bit_ne_five]
  rw [flagOf_eq_getLsbD, flagOf_eq_getLsbD, hw]
  simp only [hiff]

/-- Writing a flag leaves bit 5 at 1 (R45). -/
@[simp] theorem withFlag_bit5 (p : Byte) (f : Flag) (b : Bool) : (withFlag p f b).getLsbD 5 = true := by
  simp only [withFlag, BitVec.getLsbD_or, byte_20_getLsbD 5 (by decide), decide_true, Bool.or_true]

/-- The status byte PLP and RTI make: the stored B is kept, every other flag is the pulled byte's (R283, R296). -/
@[simp] theorem flagOf_pulledStatus (p v : Byte) (f : Flag) :
    flagOf (pulledStatus p v) f = if f = .B then flagOf p f else flagOf v f := by
  have e1 : ∀ i < 8, (0xCF : Byte).getLsbD i = decide (i ≠ 4 ∧ i ≠ 5) := by decide
  have e2 : ∀ i < 8, (0x10 : Byte).getLsbD i = decide (i = 4) := by decide
  have e3 : ∀ i < 8, (0x20 : Byte).getLsbD i = decide (i = 5) := by decide
  have hf := f.bit_lt
  simp only [flagOf_eq_getLsbD, pulledStatus, BitVec.getLsbD_or, BitVec.getLsbD_and, e1 _ hf, e2 _ hf, e3 _ hf]
  cases f <;> simp [Flag.bit]

@[simp] theorem pulledStatus_bit5 (p v : Byte) : (pulledStatus p v).getLsbD 5 = true := by
  simp only [pulledStatus, BitVec.getLsbD_or, byte_20_getLsbD 5 (by decide), decide_true, Bool.or_true]

/-- The byte PHP and BRK push: P's flags with B set (R341). -/
@[simp] theorem flagOf_softwareStatus (p : Byte) (f : Flag) :
    flagOf (softwareStatus p) f = if f = .B then true else flagOf p f := by
  have e : ∀ i < 8, (0x30 : Byte).getLsbD i = decide (i = 4 ∨ i = 5) := by decide
  simp only [flagOf_eq_getLsbD, softwareStatus, BitVec.getLsbD_or, e _ f.bit_lt]
  cases f <;> simp [Flag.bit]

/-- The byte IRQ and NMI push: P's flags with B clear (R341). -/
@[simp] theorem flagOf_interruptStatus (p : Byte) (f : Flag) :
    flagOf (interruptStatus p) f = if f = .B then false else flagOf p f := by
  have e1 : ∀ i < 8, (0xEF : Byte).getLsbD i = decide (i ≠ 4) := by decide
  have e2 : ∀ i < 8, (0x20 : Byte).getLsbD i = decide (i = 5) := by decide
  simp only [flagOf_eq_getLsbD, interruptStatus, BitVec.getLsbD_or, BitVec.getLsbD_and, e1 _ f.bit_lt, e2 _ f.bit_lt]
  cases f <;> simp [Flag.bit]

/-- `set_P` with bit 5 already forced writes its argument. -/
theorem or_20_of_bit5 {p : Byte} (h : p.getLsbD 5 = true) : p ||| 0x20 = p := by
  revert p; decide

end Sys2Proof.Machine
end

