-- ==== Sys2Proof/Laws/State.lean ====
section
/-! SUPPORT. The fields of the state after each update: one lemma for each field and update, true by unfolding. -/

namespace Sys2Proof.Machine

variable (s : State)

/-! ### setA -/

@[simp] theorem State.setA_a (v : Byte) : (s.setA v).a = v := rfl
@[simp] theorem State.setA_x (v : Byte) : (s.setA v).x = s.x := rfl
@[simp] theorem State.setA_y (v : Byte) : (s.setA v).y = s.y := rfl
@[simp] theorem State.setA_pc (v : Byte) : (s.setA v).pc = s.pc := rfl
@[simp] theorem State.setA_sp (v : Byte) : (s.setA v).sp = s.sp := rfl
@[simp] theorem State.setA_p (v : Byte) : (s.setA v).p = s.p := rfl
@[simp] theorem State.setA_nmiPending (v : Byte) : (s.setA v).nmiPending = s.nmiPending := rfl
@[simp] theorem State.setA_irqPending (v : Byte) : (s.setA v).irqPending = s.irqPending := rfl
@[simp] theorem State.setA_irqInhibit (v : Byte) : (s.setA v).irqInhibit = s.irqInhibit := rfl
@[simp] theorem State.setA_halted (v : Byte) : (s.setA v).halted = s.halted := rfl
@[simp] theorem State.setA_mem (v : Byte) : (s.setA v).mem = s.mem := rfl
@[simp] theorem State.setA_bus (v : Byte) : (s.setA v).bus = s.bus := rfl
@[simp] theorem State.setA_draws (v : Byte) : (s.setA v).draws = s.draws := rfl
@[simp] theorem State.setA_returned (v : Byte) : (s.setA v).returned = s.returned := rfl

@[simp] theorem State.setA_memRead (v : Byte) (k : Access) (adr : Word) : (s.setA v).memRead k adr = s.memRead k adr := rfl
@[simp] theorem State.setA_readWord (v : Byte) (k l : Access) (adr : Word) : (s.setA v).readWord k l adr = s.readWord k l adr := rfl
@[simp] theorem State.setA_top (v : Byte) : (s.setA v).top = s.top := rfl
@[simp] theorem State.setA_topWord (v : Byte) : (s.setA v).topWord = s.topWord := rfl
@[simp] theorem State.setA_stored (v : Byte) (adr : Word) : (s.setA v).stored adr = s.stored adr := rfl
@[simp] theorem State.setA_isDevice (v : Byte) (adr : Word) : (s.setA v).isDevice adr = s.isDevice adr := rfl

/-! ### setX -/

@[simp] theorem State.setX_a (v : Byte) : (s.setX v).a = s.a := rfl
@[simp] theorem State.setX_x (v : Byte) : (s.setX v).x = v := rfl
@[simp] theorem State.setX_y (v : Byte) : (s.setX v).y = s.y := rfl
@[simp] theorem State.setX_pc (v : Byte) : (s.setX v).pc = s.pc := rfl
@[simp] theorem State.setX_sp (v : Byte) : (s.setX v).sp = s.sp := rfl
@[simp] theorem State.setX_p (v : Byte) : (s.setX v).p = s.p := rfl
@[simp] theorem State.setX_nmiPending (v : Byte) : (s.setX v).nmiPending = s.nmiPending := rfl
@[simp] theorem State.setX_irqPending (v : Byte) : (s.setX v).irqPending = s.irqPending := rfl
@[simp] theorem State.setX_irqInhibit (v : Byte) : (s.setX v).irqInhibit = s.irqInhibit := rfl
@[simp] theorem State.setX_halted (v : Byte) : (s.setX v).halted = s.halted := rfl
@[simp] theorem State.setX_mem (v : Byte) : (s.setX v).mem = s.mem := rfl
@[simp] theorem State.setX_bus (v : Byte) : (s.setX v).bus = s.bus := rfl
@[simp] theorem State.setX_draws (v : Byte) : (s.setX v).draws = s.draws := rfl
@[simp] theorem State.setX_returned (v : Byte) : (s.setX v).returned = s.returned := rfl

@[simp] theorem State.setX_memRead (v : Byte) (k : Access) (adr : Word) : (s.setX v).memRead k adr = s.memRead k adr := rfl
@[simp] theorem State.setX_readWord (v : Byte) (k l : Access) (adr : Word) : (s.setX v).readWord k l adr = s.readWord k l adr := rfl
@[simp] theorem State.setX_top (v : Byte) : (s.setX v).top = s.top := rfl
@[simp] theorem State.setX_topWord (v : Byte) : (s.setX v).topWord = s.topWord := rfl
@[simp] theorem State.setX_stored (v : Byte) (adr : Word) : (s.setX v).stored adr = s.stored adr := rfl
@[simp] theorem State.setX_isDevice (v : Byte) (adr : Word) : (s.setX v).isDevice adr = s.isDevice adr := rfl

/-! ### setY -/

@[simp] theorem State.setY_a (v : Byte) : (s.setY v).a = s.a := rfl
@[simp] theorem State.setY_x (v : Byte) : (s.setY v).x = s.x := rfl
@[simp] theorem State.setY_y (v : Byte) : (s.setY v).y = v := rfl
@[simp] theorem State.setY_pc (v : Byte) : (s.setY v).pc = s.pc := rfl
@[simp] theorem State.setY_sp (v : Byte) : (s.setY v).sp = s.sp := rfl
@[simp] theorem State.setY_p (v : Byte) : (s.setY v).p = s.p := rfl
@[simp] theorem State.setY_nmiPending (v : Byte) : (s.setY v).nmiPending = s.nmiPending := rfl
@[simp] theorem State.setY_irqPending (v : Byte) : (s.setY v).irqPending = s.irqPending := rfl
@[simp] theorem State.setY_irqInhibit (v : Byte) : (s.setY v).irqInhibit = s.irqInhibit := rfl
@[simp] theorem State.setY_halted (v : Byte) : (s.setY v).halted = s.halted := rfl
@[simp] theorem State.setY_mem (v : Byte) : (s.setY v).mem = s.mem := rfl
@[simp] theorem State.setY_bus (v : Byte) : (s.setY v).bus = s.bus := rfl
@[simp] theorem State.setY_draws (v : Byte) : (s.setY v).draws = s.draws := rfl
@[simp] theorem State.setY_returned (v : Byte) : (s.setY v).returned = s.returned := rfl

@[simp] theorem State.setY_memRead (v : Byte) (k : Access) (adr : Word) : (s.setY v).memRead k adr = s.memRead k adr := rfl
@[simp] theorem State.setY_readWord (v : Byte) (k l : Access) (adr : Word) : (s.setY v).readWord k l adr = s.readWord k l adr := rfl
@[simp] theorem State.setY_top (v : Byte) : (s.setY v).top = s.top := rfl
@[simp] theorem State.setY_topWord (v : Byte) : (s.setY v).topWord = s.topWord := rfl
@[simp] theorem State.setY_stored (v : Byte) (adr : Word) : (s.setY v).stored adr = s.stored adr := rfl
@[simp] theorem State.setY_isDevice (v : Byte) (adr : Word) : (s.setY v).isDevice adr = s.isDevice adr := rfl

/-! ### setSP -/

@[simp] theorem State.setSP_a (v : Byte) : (s.setSP v).a = s.a := rfl
@[simp] theorem State.setSP_x (v : Byte) : (s.setSP v).x = s.x := rfl
@[simp] theorem State.setSP_y (v : Byte) : (s.setSP v).y = s.y := rfl
@[simp] theorem State.setSP_pc (v : Byte) : (s.setSP v).pc = s.pc := rfl
@[simp] theorem State.setSP_sp (v : Byte) : (s.setSP v).sp = v := rfl
@[simp] theorem State.setSP_p (v : Byte) : (s.setSP v).p = s.p := rfl
@[simp] theorem State.setSP_nmiPending (v : Byte) : (s.setSP v).nmiPending = s.nmiPending := rfl
@[simp] theorem State.setSP_irqPending (v : Byte) : (s.setSP v).irqPending = s.irqPending := rfl
@[simp] theorem State.setSP_irqInhibit (v : Byte) : (s.setSP v).irqInhibit = s.irqInhibit := rfl
@[simp] theorem State.setSP_halted (v : Byte) : (s.setSP v).halted = s.halted := rfl
@[simp] theorem State.setSP_mem (v : Byte) : (s.setSP v).mem = s.mem := rfl
@[simp] theorem State.setSP_bus (v : Byte) : (s.setSP v).bus = s.bus := rfl
@[simp] theorem State.setSP_draws (v : Byte) : (s.setSP v).draws = s.draws := rfl
@[simp] theorem State.setSP_returned (v : Byte) : (s.setSP v).returned = s.returned := rfl

@[simp] theorem State.setSP_memRead (v : Byte) (k : Access) (adr : Word) : (s.setSP v).memRead k adr = s.memRead k adr := rfl
@[simp] theorem State.setSP_readWord (v : Byte) (k l : Access) (adr : Word) : (s.setSP v).readWord k l adr = s.readWord k l adr := rfl
@[simp] theorem State.setSP_stored (v : Byte) (adr : Word) : (s.setSP v).stored adr = s.stored adr := rfl
@[simp] theorem State.setSP_isDevice (v : Byte) (adr : Word) : (s.setSP v).isDevice adr = s.isDevice adr := rfl

/-! ### setPC -/

@[simp] theorem State.setPC_a (v : Word) : (s.setPC v).a = s.a := rfl
@[simp] theorem State.setPC_x (v : Word) : (s.setPC v).x = s.x := rfl
@[simp] theorem State.setPC_y (v : Word) : (s.setPC v).y = s.y := rfl
@[simp] theorem State.setPC_pc (v : Word) : (s.setPC v).pc = v := rfl
@[simp] theorem State.setPC_sp (v : Word) : (s.setPC v).sp = s.sp := rfl
@[simp] theorem State.setPC_p (v : Word) : (s.setPC v).p = s.p := rfl
@[simp] theorem State.setPC_nmiPending (v : Word) : (s.setPC v).nmiPending = s.nmiPending := rfl
@[simp] theorem State.setPC_irqPending (v : Word) : (s.setPC v).irqPending = s.irqPending := rfl
@[simp] theorem State.setPC_irqInhibit (v : Word) : (s.setPC v).irqInhibit = s.irqInhibit := rfl
@[simp] theorem State.setPC_halted (v : Word) : (s.setPC v).halted = s.halted := rfl
@[simp] theorem State.setPC_mem (v : Word) : (s.setPC v).mem = s.mem := rfl
@[simp] theorem State.setPC_bus (v : Word) : (s.setPC v).bus = s.bus := rfl
@[simp] theorem State.setPC_draws (v : Word) : (s.setPC v).draws = s.draws := rfl
@[simp] theorem State.setPC_returned (v : Word) : (s.setPC v).returned = s.returned := rfl

@[simp] theorem State.setPC_memRead (v : Word) (k : Access) (adr : Word) : (s.setPC v).memRead k adr = s.memRead k adr := rfl
@[simp] theorem State.setPC_readWord (v : Word) (k l : Access) (adr : Word) : (s.setPC v).readWord k l adr = s.readWord k l adr := rfl
@[simp] theorem State.setPC_top (v : Word) : (s.setPC v).top = s.top := rfl
@[simp] theorem State.setPC_topWord (v : Word) : (s.setPC v).topWord = s.topWord := rfl
@[simp] theorem State.setPC_stored (v : Word) (adr : Word) : (s.setPC v).stored adr = s.stored adr := rfl
@[simp] theorem State.setPC_isDevice (v : Word) (adr : Word) : (s.setPC v).isDevice adr = s.isDevice adr := rfl

/-! ### setP -/

@[simp] theorem State.setP_a (v : Byte) : (s.setP v).a = s.a := rfl
@[simp] theorem State.setP_x (v : Byte) : (s.setP v).x = s.x := rfl
@[simp] theorem State.setP_y (v : Byte) : (s.setP v).y = s.y := rfl
@[simp] theorem State.setP_pc (v : Byte) : (s.setP v).pc = s.pc := rfl
@[simp] theorem State.setP_sp (v : Byte) : (s.setP v).sp = s.sp := rfl
@[simp] theorem State.setP_p (v : Byte) : (s.setP v).p = v ||| 0x20 := rfl
@[simp] theorem State.setP_nmiPending (v : Byte) : (s.setP v).nmiPending = s.nmiPending := rfl
@[simp] theorem State.setP_irqPending (v : Byte) : (s.setP v).irqPending = s.irqPending := rfl
@[simp] theorem State.setP_irqInhibit (v : Byte) : (s.setP v).irqInhibit = s.irqInhibit := rfl
@[simp] theorem State.setP_halted (v : Byte) : (s.setP v).halted = s.halted := rfl
@[simp] theorem State.setP_mem (v : Byte) : (s.setP v).mem = s.mem := rfl
@[simp] theorem State.setP_bus (v : Byte) : (s.setP v).bus = s.bus := rfl
@[simp] theorem State.setP_draws (v : Byte) : (s.setP v).draws = s.draws := rfl
@[simp] theorem State.setP_returned (v : Byte) : (s.setP v).returned = s.returned := rfl

@[simp] theorem State.setP_memRead (v : Byte) (k : Access) (adr : Word) : (s.setP v).memRead k adr = s.memRead k adr := rfl
@[simp] theorem State.setP_readWord (v : Byte) (k l : Access) (adr : Word) : (s.setP v).readWord k l adr = s.readWord k l adr := rfl
@[simp] theorem State.setP_top (v : Byte) : (s.setP v).top = s.top := rfl
@[simp] theorem State.setP_topWord (v : Byte) : (s.setP v).topWord = s.topWord := rfl
@[simp] theorem State.setP_stored (v : Byte) (adr : Word) : (s.setP v).stored adr = s.stored adr := rfl
@[simp] theorem State.setP_isDevice (v : Byte) (adr : Word) : (s.setP v).isDevice adr = s.isDevice adr := rfl

/-! ### setFlag -/

@[simp] theorem State.setFlag_a (f : Flag) (b : Bool) : (s.setFlag f b).a = s.a := rfl
@[simp] theorem State.setFlag_x (f : Flag) (b : Bool) : (s.setFlag f b).x = s.x := rfl
@[simp] theorem State.setFlag_y (f : Flag) (b : Bool) : (s.setFlag f b).y = s.y := rfl
@[simp] theorem State.setFlag_pc (f : Flag) (b : Bool) : (s.setFlag f b).pc = s.pc := rfl
@[simp] theorem State.setFlag_sp (f : Flag) (b : Bool) : (s.setFlag f b).sp = s.sp := rfl
@[simp] theorem State.setFlag_p (f : Flag) (b : Bool) : (s.setFlag f b).p = withFlag s.p f b := rfl
@[simp] theorem State.setFlag_nmiPending (f : Flag) (b : Bool) : (s.setFlag f b).nmiPending = s.nmiPending := rfl
@[simp] theorem State.setFlag_irqPending (f : Flag) (b : Bool) : (s.setFlag f b).irqPending = s.irqPending := rfl
@[simp] theorem State.setFlag_irqInhibit (f : Flag) (b : Bool) : (s.setFlag f b).irqInhibit = s.irqInhibit := rfl
@[simp] theorem State.setFlag_halted (f : Flag) (b : Bool) : (s.setFlag f b).halted = s.halted := rfl
@[simp] theorem State.setFlag_mem (f : Flag) (b : Bool) : (s.setFlag f b).mem = s.mem := rfl
@[simp] theorem State.setFlag_bus (f : Flag) (b : Bool) : (s.setFlag f b).bus = s.bus := rfl
@[simp] theorem State.setFlag_draws (f : Flag) (b : Bool) : (s.setFlag f b).draws = s.draws := rfl
@[simp] theorem State.setFlag_returned (f : Flag) (b : Bool) : (s.setFlag f b).returned = s.returned := rfl

@[simp] theorem State.setFlag_memRead (f : Flag) (b : Bool) (k : Access) (adr : Word) : (s.setFlag f b).memRead k adr = s.memRead k adr := rfl
@[simp] theorem State.setFlag_readWord (f : Flag) (b : Bool) (k l : Access) (adr : Word) : (s.setFlag f b).readWord k l adr = s.readWord k l adr := rfl
@[simp] theorem State.setFlag_top (f : Flag) (b : Bool) : (s.setFlag f b).top = s.top := rfl
@[simp] theorem State.setFlag_topWord (f : Flag) (b : Bool) : (s.setFlag f b).topWord = s.topWord := rfl
@[simp] theorem State.setFlag_stored (f : Flag) (b : Bool) (adr : Word) : (s.setFlag f b).stored adr = s.stored adr := rfl
@[simp] theorem State.setFlag_isDevice (f : Flag) (b : Bool) (adr : Word) : (s.setFlag f b).isDevice adr = s.isDevice adr := rfl

/-! ### setZN -/

@[simp] theorem State.setZN_a (v : Byte) : (s.setZN v).a = s.a := rfl
@[simp] theorem State.setZN_x (v : Byte) : (s.setZN v).x = s.x := rfl
@[simp] theorem State.setZN_y (v : Byte) : (s.setZN v).y = s.y := rfl
@[simp] theorem State.setZN_pc (v : Byte) : (s.setZN v).pc = s.pc := rfl
@[simp] theorem State.setZN_sp (v : Byte) : (s.setZN v).sp = s.sp := rfl
@[simp] theorem State.setZN_p (v : Byte) : (s.setZN v).p = withFlag (withFlag s.p .Z (decide (v = 0))) .N (v.getLsbD 7) := rfl
@[simp] theorem State.setZN_nmiPending (v : Byte) : (s.setZN v).nmiPending = s.nmiPending := rfl
@[simp] theorem State.setZN_irqPending (v : Byte) : (s.setZN v).irqPending = s.irqPending := rfl
@[simp] theorem State.setZN_irqInhibit (v : Byte) : (s.setZN v).irqInhibit = s.irqInhibit := rfl
@[simp] theorem State.setZN_halted (v : Byte) : (s.setZN v).halted = s.halted := rfl
@[simp] theorem State.setZN_mem (v : Byte) : (s.setZN v).mem = s.mem := rfl
@[simp] theorem State.setZN_bus (v : Byte) : (s.setZN v).bus = s.bus := rfl
@[simp] theorem State.setZN_draws (v : Byte) : (s.setZN v).draws = s.draws := rfl
@[simp] theorem State.setZN_returned (v : Byte) : (s.setZN v).returned = s.returned := rfl

@[simp] theorem State.setZN_memRead (v : Byte) (k : Access) (adr : Word) : (s.setZN v).memRead k adr = s.memRead k adr := rfl
@[simp] theorem State.setZN_readWord (v : Byte) (k l : Access) (adr : Word) : (s.setZN v).readWord k l adr = s.readWord k l adr := rfl
@[simp] theorem State.setZN_top (v : Byte) : (s.setZN v).top = s.top := rfl
@[simp] theorem State.setZN_topWord (v : Byte) : (s.setZN v).topWord = s.topWord := rfl
@[simp] theorem State.setZN_stored (v : Byte) (adr : Word) : (s.setZN v).stored adr = s.stored adr := rfl
@[simp] theorem State.setZN_isDevice (v : Byte) (adr : Word) : (s.setZN v).isDevice adr = s.isDevice adr := rfl

/-! ### advance -/

@[simp] theorem State.advance_a (n : Nat) : (s.advance n).a = s.a := rfl
@[simp] theorem State.advance_x (n : Nat) : (s.advance n).x = s.x := rfl
@[simp] theorem State.advance_y (n : Nat) : (s.advance n).y = s.y := rfl
@[simp] theorem State.advance_pc (n : Nat) : (s.advance n).pc = s.pc + BitVec.ofNat 16 n := rfl
@[simp] theorem State.advance_sp (n : Nat) : (s.advance n).sp = s.sp := rfl
@[simp] theorem State.advance_p (n : Nat) : (s.advance n).p = s.p := rfl
@[simp] theorem State.advance_nmiPending (n : Nat) : (s.advance n).nmiPending = s.nmiPending := rfl
@[simp] theorem State.advance_irqPending (n : Nat) : (s.advance n).irqPending = s.irqPending := rfl
@[simp] theorem State.advance_irqInhibit (n : Nat) : (s.advance n).irqInhibit = s.irqInhibit := rfl
@[simp] theorem State.advance_halted (n : Nat) : (s.advance n).halted = s.halted := rfl
@[simp] theorem State.advance_mem (n : Nat) : (s.advance n).mem = s.mem := rfl
@[simp] theorem State.advance_bus (n : Nat) : (s.advance n).bus = s.bus := rfl
@[simp] theorem State.advance_draws (n : Nat) : (s.advance n).draws = s.draws := rfl
@[simp] theorem State.advance_returned (n : Nat) : (s.advance n).returned = s.returned := rfl

@[simp] theorem State.advance_memRead (n : Nat) (k : Access) (adr : Word) : (s.advance n).memRead k adr = s.memRead k adr := rfl
@[simp] theorem State.advance_readWord (n : Nat) (k l : Access) (adr : Word) : (s.advance n).readWord k l adr = s.readWord k l adr := rfl
@[simp] theorem State.advance_top (n : Nat) : (s.advance n).top = s.top := rfl
@[simp] theorem State.advance_topWord (n : Nat) : (s.advance n).topWord = s.topWord := rfl
@[simp] theorem State.advance_stored (n : Nat) (adr : Word) : (s.advance n).stored adr = s.stored adr := rfl
@[simp] theorem State.advance_isDevice (n : Nat) (adr : Word) : (s.advance n).isDevice adr = s.isDevice adr := rfl

/-! ### memWrite -/

@[simp] theorem State.memWrite_a (w : Word) (v : Byte) : (s.memWrite w v).a = s.a := rfl
@[simp] theorem State.memWrite_x (w : Word) (v : Byte) : (s.memWrite w v).x = s.x := rfl
@[simp] theorem State.memWrite_y (w : Word) (v : Byte) : (s.memWrite w v).y = s.y := rfl
@[simp] theorem State.memWrite_pc (w : Word) (v : Byte) : (s.memWrite w v).pc = s.pc := rfl
@[simp] theorem State.memWrite_sp (w : Word) (v : Byte) : (s.memWrite w v).sp = s.sp := rfl
@[simp] theorem State.memWrite_p (w : Word) (v : Byte) : (s.memWrite w v).p = s.p := rfl
@[simp] theorem State.memWrite_nmiPending (w : Word) (v : Byte) : (s.memWrite w v).nmiPending = s.nmiPending := rfl
@[simp] theorem State.memWrite_irqPending (w : Word) (v : Byte) : (s.memWrite w v).irqPending = s.irqPending := rfl
@[simp] theorem State.memWrite_irqInhibit (w : Word) (v : Byte) : (s.memWrite w v).irqInhibit = s.irqInhibit := rfl
@[simp] theorem State.memWrite_halted (w : Word) (v : Byte) : (s.memWrite w v).halted = s.halted := rfl
@[simp] theorem State.memWrite_mem (w : Word) (v : Byte) : (s.memWrite w v).mem = if s.isDevice w then s.mem else s.mem.write (cellKey w) v := rfl
@[simp] theorem State.memWrite_bus (w : Word) (v : Byte) : (s.memWrite w v).bus = s.bus := rfl
@[simp] theorem State.memWrite_draws (w : Word) (v : Byte) : (s.memWrite w v).draws = s.draws := rfl
@[simp] theorem State.memWrite_returned (w : Word) (v : Byte) : (s.memWrite w v).returned = s.returned := rfl

@[simp] theorem State.memWrite_isDevice (w : Word) (v : Byte) (adr : Word) : (s.memWrite w v).isDevice adr = s.isDevice adr := rfl

/-! ### push -/

@[simp] theorem State.push_a (v : Byte) : (s.push v).a = s.a := rfl
@[simp] theorem State.push_x (v : Byte) : (s.push v).x = s.x := rfl
@[simp] theorem State.push_y (v : Byte) : (s.push v).y = s.y := rfl
@[simp] theorem State.push_pc (v : Byte) : (s.push v).pc = s.pc := rfl
@[simp] theorem State.push_sp (v : Byte) : (s.push v).sp = s.sp - 1 := rfl
@[simp] theorem State.push_p (v : Byte) : (s.push v).p = s.p := rfl
@[simp] theorem State.push_nmiPending (v : Byte) : (s.push v).nmiPending = s.nmiPending := rfl
@[simp] theorem State.push_irqPending (v : Byte) : (s.push v).irqPending = s.irqPending := rfl
@[simp] theorem State.push_irqInhibit (v : Byte) : (s.push v).irqInhibit = s.irqInhibit := rfl
@[simp] theorem State.push_halted (v : Byte) : (s.push v).halted = s.halted := rfl
@[simp] theorem State.push_mem (v : Byte) : (s.push v).mem = (s.memWrite (stackAddr s.sp) v).mem := rfl
@[simp] theorem State.push_bus (v : Byte) : (s.push v).bus = s.bus := rfl
@[simp] theorem State.push_draws (v : Byte) : (s.push v).draws = s.draws := rfl
@[simp] theorem State.push_returned (v : Byte) : (s.push v).returned = s.returned := rfl

@[simp] theorem State.push_isDevice (v : Byte) (adr : Word) : (s.push v).isDevice adr = s.isDevice adr := rfl

/-! ### pushWord -/

@[simp] theorem State.pushWord_a (w : Word) : (s.pushWord w).a = s.a := rfl
@[simp] theorem State.pushWord_x (w : Word) : (s.pushWord w).x = s.x := rfl
@[simp] theorem State.pushWord_y (w : Word) : (s.pushWord w).y = s.y := rfl
@[simp] theorem State.pushWord_pc (w : Word) : (s.pushWord w).pc = s.pc := rfl
@[simp] theorem State.pushWord_sp (w : Word) : (s.pushWord w).sp = s.sp - 1 - 1 := rfl
@[simp] theorem State.pushWord_p (w : Word) : (s.pushWord w).p = s.p := rfl
@[simp] theorem State.pushWord_nmiPending (w : Word) : (s.pushWord w).nmiPending = s.nmiPending := rfl
@[simp] theorem State.pushWord_irqPending (w : Word) : (s.pushWord w).irqPending = s.irqPending := rfl
@[simp] theorem State.pushWord_irqInhibit (w : Word) : (s.pushWord w).irqInhibit = s.irqInhibit := rfl
@[simp] theorem State.pushWord_halted (w : Word) : (s.pushWord w).halted = s.halted := rfl
@[simp] theorem State.pushWord_mem (w : Word) : (s.pushWord w).mem = ((s.push (hiByte w)).push (loByte w)).mem := rfl
@[simp] theorem State.pushWord_bus (w : Word) : (s.pushWord w).bus = s.bus := rfl
@[simp] theorem State.pushWord_draws (w : Word) : (s.pushWord w).draws = s.draws := rfl
@[simp] theorem State.pushWord_returned (w : Word) : (s.pushWord w).returned = s.returned := rfl

@[simp] theorem State.pushWord_isDevice (w : Word) (adr : Word) : (s.pushWord w).isDevice adr = s.isDevice adr := rfl

/-! ### pulled -/

@[simp] theorem State.pulled_a : (s.pulled).a = s.a := rfl
@[simp] theorem State.pulled_x : (s.pulled).x = s.x := rfl
@[simp] theorem State.pulled_y : (s.pulled).y = s.y := rfl
@[simp] theorem State.pulled_pc : (s.pulled).pc = s.pc := rfl
@[simp] theorem State.pulled_sp : (s.pulled).sp = s.sp + 1 := rfl
@[simp] theorem State.pulled_p : (s.pulled).p = s.p := rfl
@[simp] theorem State.pulled_nmiPending : (s.pulled).nmiPending = s.nmiPending := rfl
@[simp] theorem State.pulled_irqPending : (s.pulled).irqPending = s.irqPending := rfl
@[simp] theorem State.pulled_irqInhibit : (s.pulled).irqInhibit = s.irqInhibit := rfl
@[simp] theorem State.pulled_halted : (s.pulled).halted = s.halted := rfl
@[simp] theorem State.pulled_mem : (s.pulled).mem = s.mem := rfl
@[simp] theorem State.pulled_bus : (s.pulled).bus = s.bus := rfl
@[simp] theorem State.pulled_draws : (s.pulled).draws = s.draws := rfl
@[simp] theorem State.pulled_returned : (s.pulled).returned = s.returned := rfl

@[simp] theorem State.pulled_memRead (k : Access) (adr : Word) : (s.pulled).memRead k adr = s.memRead k adr := rfl
@[simp] theorem State.pulled_readWord (k l : Access) (adr : Word) : (s.pulled).readWord k l adr = s.readWord k l adr := rfl
@[simp] theorem State.pulled_stored (adr : Word) : (s.pulled).stored adr = s.stored adr := rfl
@[simp] theorem State.pulled_isDevice (adr : Word) : (s.pulled).isDevice adr = s.isDevice adr := rfl

/-! ### finish -/

@[simp] theorem State.finish_a (op : Byte) (c : Bool) (e : Nat) : (s.finish op c e).a = s.a := rfl
@[simp] theorem State.finish_x (op : Byte) (c : Bool) (e : Nat) : (s.finish op c e).x = s.x := rfl
@[simp] theorem State.finish_y (op : Byte) (c : Bool) (e : Nat) : (s.finish op c e).y = s.y := rfl
@[simp] theorem State.finish_pc (op : Byte) (c : Bool) (e : Nat) : (s.finish op c e).pc = s.pc := rfl
@[simp] theorem State.finish_sp (op : Byte) (c : Bool) (e : Nat) : (s.finish op c e).sp = s.sp := rfl
@[simp] theorem State.finish_p (op : Byte) (c : Bool) (e : Nat) : (s.finish op c e).p = s.p := rfl
@[simp] theorem State.finish_nmiPending (op : Byte) (c : Bool) (e : Nat) : (s.finish op c e).nmiPending = s.nmiPending := rfl
@[simp] theorem State.finish_irqPending (op : Byte) (c : Bool) (e : Nat) : (s.finish op c e).irqPending = s.irqPending := rfl
@[simp] theorem State.finish_irqInhibit (op : Byte) (c : Bool) (e : Nat) : (s.finish op c e).irqInhibit = s.flag .I := rfl
@[simp] theorem State.finish_halted (op : Byte) (c : Bool) (e : Nat) : (s.finish op c e).halted = s.halted := rfl
@[simp] theorem State.finish_mem (op : Byte) (c : Bool) (e : Nat) : (s.finish op c e).mem = s.mem := rfl
@[simp] theorem State.finish_bus (op : Byte) (c : Bool) (e : Nat) : (s.finish op c e).bus = s.bus := rfl
@[simp] theorem State.finish_draws (op : Byte) (c : Bool) (e : Nat) : (s.finish op c e).draws = s.draws + 1 := rfl
@[simp] theorem State.finish_returned (op : Byte) (c : Bool) (e : Nat) : (s.finish op c e).returned = .cycles (cyclesOf op c e) := rfl

@[simp] theorem State.finish_stored (op : Byte) (c : Bool) (e : Nat) (adr : Word) : (s.finish op c e).stored adr = s.stored adr := rfl
@[simp] theorem State.finish_isDevice (op : Byte) (c : Bool) (e : Nat) (adr : Word) : (s.finish op c e).isDevice adr = s.isDevice adr := rfl

/-! ### finishDelayed -/

@[simp] theorem State.finishDelayed_a (op : Byte) (b : Bool) : (s.finishDelayed op b).a = s.a := rfl
@[simp] theorem State.finishDelayed_x (op : Byte) (b : Bool) : (s.finishDelayed op b).x = s.x := rfl
@[simp] theorem State.finishDelayed_y (op : Byte) (b : Bool) : (s.finishDelayed op b).y = s.y := rfl
@[simp] theorem State.finishDelayed_pc (op : Byte) (b : Bool) : (s.finishDelayed op b).pc = s.pc := rfl
@[simp] theorem State.finishDelayed_sp (op : Byte) (b : Bool) : (s.finishDelayed op b).sp = s.sp := rfl
@[simp] theorem State.finishDelayed_p (op : Byte) (b : Bool) : (s.finishDelayed op b).p = s.p := rfl
@[simp] theorem State.finishDelayed_nmiPending (op : Byte) (b : Bool) : (s.finishDelayed op b).nmiPending = s.nmiPending := rfl
@[simp] theorem State.finishDelayed_irqPending (op : Byte) (b : Bool) : (s.finishDelayed op b).irqPending = s.irqPending := rfl
@[simp] theorem State.finishDelayed_irqInhibit (op : Byte) (b : Bool) : (s.finishDelayed op b).irqInhibit = b := rfl
@[simp] theorem State.finishDelayed_halted (op : Byte) (b : Bool) : (s.finishDelayed op b).halted = s.halted := rfl
@[simp] theorem State.finishDelayed_mem (op : Byte) (b : Bool) : (s.finishDelayed op b).mem = s.mem := rfl
@[simp] theorem State.finishDelayed_bus (op : Byte) (b : Bool) : (s.finishDelayed op b).bus = s.bus := rfl
@[simp] theorem State.finishDelayed_draws (op : Byte) (b : Bool) : (s.finishDelayed op b).draws = s.draws + 1 := rfl
@[simp] theorem State.finishDelayed_returned (op : Byte) (b : Bool) : (s.finishDelayed op b).returned = .cycles (cyclesOf op false 0) := rfl

@[simp] theorem State.finishDelayed_stored (op : Byte) (b : Bool) (adr : Word) : (s.finishDelayed op b).stored adr = s.stored adr := rfl
@[simp] theorem State.finishDelayed_isDevice (op : Byte) (b : Bool) (adr : Word) : (s.finishDelayed op b).isDevice adr = s.isDevice adr := rfl

/-! ### finishInterrupt -/

@[simp] theorem State.finishInterrupt_a : (s.finishInterrupt).a = s.a := rfl
@[simp] theorem State.finishInterrupt_x : (s.finishInterrupt).x = s.x := rfl
@[simp] theorem State.finishInterrupt_y : (s.finishInterrupt).y = s.y := rfl
@[simp] theorem State.finishInterrupt_pc : (s.finishInterrupt).pc = s.pc := rfl
@[simp] theorem State.finishInterrupt_sp : (s.finishInterrupt).sp = s.sp := rfl
@[simp] theorem State.finishInterrupt_p : (s.finishInterrupt).p = s.p := rfl
@[simp] theorem State.finishInterrupt_nmiPending : (s.finishInterrupt).nmiPending = s.nmiPending := rfl
@[simp] theorem State.finishInterrupt_irqPending : (s.finishInterrupt).irqPending = s.irqPending := rfl
@[simp] theorem State.finishInterrupt_irqInhibit : (s.finishInterrupt).irqInhibit = true := rfl
@[simp] theorem State.finishInterrupt_halted : (s.finishInterrupt).halted = s.halted := rfl
@[simp] theorem State.finishInterrupt_mem : (s.finishInterrupt).mem = s.mem := rfl
@[simp] theorem State.finishInterrupt_bus : (s.finishInterrupt).bus = s.bus := rfl
@[simp] theorem State.finishInterrupt_draws : (s.finishInterrupt).draws = s.draws + 1 := rfl
@[simp] theorem State.finishInterrupt_returned : (s.finishInterrupt).returned = .cycles interruptCycles := rfl

@[simp] theorem State.finishInterrupt_stored (adr : Word) : (s.finishInterrupt).stored adr = s.stored adr := rfl
@[simp] theorem State.finishInterrupt_isDevice (adr : Word) : (s.finishInterrupt).isDevice adr = s.isDevice adr := rfl

/-! ### halt -/

@[simp] theorem State.halt_a (f : Fault) : (s.halt f).a = s.a := rfl
@[simp] theorem State.halt_x (f : Fault) : (s.halt f).x = s.x := rfl
@[simp] theorem State.halt_y (f : Fault) : (s.halt f).y = s.y := rfl
@[simp] theorem State.halt_pc (f : Fault) : (s.halt f).pc = s.pc := rfl
@[simp] theorem State.halt_sp (f : Fault) : (s.halt f).sp = s.sp := rfl
@[simp] theorem State.halt_p (f : Fault) : (s.halt f).p = s.p := rfl
@[simp] theorem State.halt_nmiPending (f : Fault) : (s.halt f).nmiPending = s.nmiPending := rfl
@[simp] theorem State.halt_irqPending (f : Fault) : (s.halt f).irqPending = s.irqPending := rfl
@[simp] theorem State.halt_irqInhibit (f : Fault) : (s.halt f).irqInhibit = s.irqInhibit := rfl
@[simp] theorem State.halt_halted (f : Fault) : (s.halt f).halted = true := rfl
@[simp] theorem State.halt_mem (f : Fault) : (s.halt f).mem = s.mem := rfl
@[simp] theorem State.halt_bus (f : Fault) : (s.halt f).bus = s.bus := rfl
@[simp] theorem State.halt_draws (f : Fault) : (s.halt f).draws = s.draws + 1 := rfl
@[simp] theorem State.halt_returned (f : Fault) : (s.halt f).returned = .fault f := rfl

@[simp] theorem State.halt_stored (f : Fault) (adr : Word) : (s.halt f).stored adr = s.stored adr := rfl
@[simp] theorem State.halt_isDevice (f : Fault) (adr : Word) : (s.halt f).isDevice adr = s.isDevice adr := rfl

/-! ### enterHandler -/

@[simp] theorem enterHandler_a (b : Byte) (v : Word) : (enterHandler b v s).a = s.a := by simp [enterHandler]
@[simp] theorem enterHandler_x (b : Byte) (v : Word) : (enterHandler b v s).x = s.x := by simp [enterHandler]
@[simp] theorem enterHandler_y (b : Byte) (v : Word) : (enterHandler b v s).y = s.y := by simp [enterHandler]
@[simp] theorem enterHandler_pc (b : Byte) (v : Word) : (enterHandler b v s).pc = ((s.pushWord s.pc).push b).readWord .vectorLo .vectorHi v := by simp [enterHandler]
@[simp] theorem enterHandler_sp (b : Byte) (v : Word) : (enterHandler b v s).sp = s.sp - 1 - 1 - 1 := by simp [enterHandler]
@[simp] theorem enterHandler_p (b : Byte) (v : Word) : (enterHandler b v s).p = withFlag s.p .I true := by simp [enterHandler]
@[simp] theorem enterHandler_nmiPending (b : Byte) (v : Word) : (enterHandler b v s).nmiPending = s.nmiPending := by simp [enterHandler]
@[simp] theorem enterHandler_irqPending (b : Byte) (v : Word) : (enterHandler b v s).irqPending = s.irqPending := by simp [enterHandler]
@[simp] theorem enterHandler_irqInhibit (b : Byte) (v : Word) : (enterHandler b v s).irqInhibit = s.irqInhibit := by simp [enterHandler]
@[simp] theorem enterHandler_halted (b : Byte) (v : Word) : (enterHandler b v s).halted = s.halted := by simp [enterHandler]
@[simp] theorem enterHandler_mem (b : Byte) (v : Word) : (enterHandler b v s).mem = ((s.pushWord s.pc).push b).mem := by simp [enterHandler]
@[simp] theorem enterHandler_bus (b : Byte) (v : Word) : (enterHandler b v s).bus = s.bus := by simp [enterHandler]
@[simp] theorem enterHandler_draws (b : Byte) (v : Word) : (enterHandler b v s).draws = s.draws := by simp [enterHandler]
@[simp] theorem enterHandler_returned (b : Byte) (v : Word) : (enterHandler b v s).returned = s.returned := by simp [enterHandler]

/-! ### interruptSequence -/

@[simp] theorem interruptSequence_a (v : Word) : (interruptSequence v s).a = s.a := by simp [interruptSequence]
@[simp] theorem interruptSequence_x (v : Word) : (interruptSequence v s).x = s.x := by simp [interruptSequence]
@[simp] theorem interruptSequence_y (v : Word) : (interruptSequence v s).y = s.y := by simp [interruptSequence]
@[simp] theorem interruptSequence_pc (v : Word) : (interruptSequence v s).pc = ((s.pushWord s.pc).push (interruptStatus s.p)).readWord .vectorLo .vectorHi v := by simp [interruptSequence]
@[simp] theorem interruptSequence_sp (v : Word) : (interruptSequence v s).sp = s.sp - 1 - 1 - 1 := by simp [interruptSequence]
@[simp] theorem interruptSequence_p (v : Word) : (interruptSequence v s).p = withFlag s.p .I true := by simp [interruptSequence]
@[simp] theorem interruptSequence_nmiPending (v : Word) : (interruptSequence v s).nmiPending = s.nmiPending := by simp [interruptSequence]
@[simp] theorem interruptSequence_irqPending (v : Word) : (interruptSequence v s).irqPending = s.irqPending := by simp [interruptSequence]
@[simp] theorem interruptSequence_irqInhibit (v : Word) : (interruptSequence v s).irqInhibit = s.irqInhibit := by simp [interruptSequence]
@[simp] theorem interruptSequence_halted (v : Word) : (interruptSequence v s).halted = s.halted := by simp [interruptSequence]
@[simp] theorem interruptSequence_mem (v : Word) : (interruptSequence v s).mem = ((s.pushWord s.pc).push (interruptStatus s.p)).mem := by simp [interruptSequence]
@[simp] theorem interruptSequence_bus (v : Word) : (interruptSequence v s).bus = s.bus := by simp [interruptSequence]
@[simp] theorem interruptSequence_draws (v : Word) : (interruptSequence v s).draws = s.draws := by simp [interruptSequence]
@[simp] theorem interruptSequence_returned (v : Word) : (interruptSequence v s).returned = s.returned := by simp [interruptSequence]

/-! ### returnFromHandler -/

@[simp] theorem returnFromHandler_a : (returnFromHandler s).a = s.a := by simp [returnFromHandler]
@[simp] theorem returnFromHandler_x : (returnFromHandler s).x = s.x := by simp [returnFromHandler]
@[simp] theorem returnFromHandler_y : (returnFromHandler s).y = s.y := by simp [returnFromHandler]
@[simp] theorem returnFromHandler_pc : (returnFromHandler s).pc = s.pulled.topWord := by simp [returnFromHandler]
@[simp] theorem returnFromHandler_sp : (returnFromHandler s).sp = s.sp + 1 + 1 + 1 := by simp [returnFromHandler]
@[simp] theorem returnFromHandler_p : (returnFromHandler s).p = pulledStatus s.p s.top ||| 0x20 := by simp [returnFromHandler]
@[simp] theorem returnFromHandler_nmiPending : (returnFromHandler s).nmiPending = s.nmiPending := by simp [returnFromHandler]
@[simp] theorem returnFromHandler_irqPending : (returnFromHandler s).irqPending = s.irqPending := by simp [returnFromHandler]
@[simp] theorem returnFromHandler_irqInhibit : (returnFromHandler s).irqInhibit = s.irqInhibit := by simp [returnFromHandler]
@[simp] theorem returnFromHandler_halted : (returnFromHandler s).halted = s.halted := by simp [returnFromHandler]
@[simp] theorem returnFromHandler_mem : (returnFromHandler s).mem = s.mem := by simp [returnFromHandler]
@[simp] theorem returnFromHandler_bus : (returnFromHandler s).bus = s.bus := by simp [returnFromHandler]
@[simp] theorem returnFromHandler_draws : (returnFromHandler s).draws = s.draws := by simp [returnFromHandler]
@[simp] theorem returnFromHandler_returned : (returnFromHandler s).returned = s.returned := by simp [returnFromHandler]

/-! ### takeNmi -/

@[simp] theorem takeNmi_a : (takeNmi s).a = s.a := by simp [takeNmi, interruptSequence]
@[simp] theorem takeNmi_x : (takeNmi s).x = s.x := by simp [takeNmi, interruptSequence]
@[simp] theorem takeNmi_y : (takeNmi s).y = s.y := by simp [takeNmi, interruptSequence]
@[simp] theorem takeNmi_sp : (takeNmi s).sp = s.sp - 1 - 1 - 1 := by simp [takeNmi, interruptSequence]
@[simp] theorem takeNmi_p : (takeNmi s).p = withFlag s.p .I true := by simp [takeNmi, interruptSequence]
@[simp] theorem takeNmi_nmiPending : (takeNmi s).nmiPending = false := by simp [takeNmi, interruptSequence]
@[simp] theorem takeNmi_irqPending : (takeNmi s).irqPending = s.irqPending := by simp [takeNmi, interruptSequence]
@[simp] theorem takeNmi_irqInhibit : (takeNmi s).irqInhibit = true := by simp [takeNmi, interruptSequence]
@[simp] theorem takeNmi_halted : (takeNmi s).halted = s.halted := by simp [takeNmi, interruptSequence]
@[simp] theorem takeNmi_bus : (takeNmi s).bus = s.bus := by simp [takeNmi, interruptSequence]
@[simp] theorem takeNmi_draws : (takeNmi s).draws = s.draws + 1 := by simp [takeNmi, interruptSequence]
@[simp] theorem takeNmi_returned : (takeNmi s).returned = .cycles interruptCycles := by simp [takeNmi, interruptSequence]

/-! ### takeIrq -/

@[simp] theorem takeIrq_a : (takeIrq s).a = s.a := by simp [takeIrq, interruptSequence]
@[simp] theorem takeIrq_x : (takeIrq s).x = s.x := by simp [takeIrq, interruptSequence]
@[simp] theorem takeIrq_y : (takeIrq s).y = s.y := by simp [takeIrq, interruptSequence]
@[simp] theorem takeIrq_sp : (takeIrq s).sp = s.sp - 1 - 1 - 1 := by simp [takeIrq, interruptSequence]
@[simp] theorem takeIrq_p : (takeIrq s).p = withFlag s.p .I true := by simp [takeIrq, interruptSequence]
@[simp] theorem takeIrq_nmiPending : (takeIrq s).nmiPending = s.nmiPending := by simp [takeIrq, interruptSequence]
@[simp] theorem takeIrq_irqPending : (takeIrq s).irqPending = false := by simp [takeIrq, interruptSequence]
@[simp] theorem takeIrq_irqInhibit : (takeIrq s).irqInhibit = true := by simp [takeIrq, interruptSequence]
@[simp] theorem takeIrq_halted : (takeIrq s).halted = s.halted := by simp [takeIrq, interruptSequence]
@[simp] theorem takeIrq_bus : (takeIrq s).bus = s.bus := by simp [takeIrq, interruptSequence]
@[simp] theorem takeIrq_draws : (takeIrq s).draws = s.draws + 1 := by simp [takeIrq, interruptSequence]
@[simp] theorem takeIrq_returned : (takeIrq s).returned = .cycles interruptCycles := by simp [takeIrq, interruptSequence]

/-! ### requestIrq -/

@[simp] theorem requestIrq_a : (requestIrq s).a = s.a := rfl
@[simp] theorem requestIrq_x : (requestIrq s).x = s.x := rfl
@[simp] theorem requestIrq_y : (requestIrq s).y = s.y := rfl
@[simp] theorem requestIrq_pc : (requestIrq s).pc = s.pc := rfl
@[simp] theorem requestIrq_sp : (requestIrq s).sp = s.sp := rfl
@[simp] theorem requestIrq_p : (requestIrq s).p = s.p := rfl
@[simp] theorem requestIrq_nmiPending : (requestIrq s).nmiPending = s.nmiPending := rfl
@[simp] theorem requestIrq_irqPending : (requestIrq s).irqPending = true := rfl
@[simp] theorem requestIrq_irqInhibit : (requestIrq s).irqInhibit = s.irqInhibit := rfl
@[simp] theorem requestIrq_halted : (requestIrq s).halted = s.halted := rfl
@[simp] theorem requestIrq_mem : (requestIrq s).mem = s.mem := rfl
@[simp] theorem requestIrq_bus : (requestIrq s).bus = s.bus := rfl
@[simp] theorem requestIrq_draws : (requestIrq s).draws = s.draws := rfl
@[simp] theorem requestIrq_returned : (requestIrq s).returned = .nothing := rfl

/-! ### requestNmi -/

@[simp] theorem requestNmi_a : (requestNmi s).a = s.a := rfl
@[simp] theorem requestNmi_x : (requestNmi s).x = s.x := rfl
@[simp] theorem requestNmi_y : (requestNmi s).y = s.y := rfl
@[simp] theorem requestNmi_pc : (requestNmi s).pc = s.pc := rfl
@[simp] theorem requestNmi_sp : (requestNmi s).sp = s.sp := rfl
@[simp] theorem requestNmi_p : (requestNmi s).p = s.p := rfl
@[simp] theorem requestNmi_nmiPending : (requestNmi s).nmiPending = true := rfl
@[simp] theorem requestNmi_irqPending : (requestNmi s).irqPending = s.irqPending := rfl
@[simp] theorem requestNmi_irqInhibit : (requestNmi s).irqInhibit = s.irqInhibit := rfl
@[simp] theorem requestNmi_halted : (requestNmi s).halted = s.halted := rfl
@[simp] theorem requestNmi_mem : (requestNmi s).mem = s.mem := rfl
@[simp] theorem requestNmi_bus : (requestNmi s).bus = s.bus := rfl
@[simp] theorem requestNmi_draws : (requestNmi s).draws = s.draws := rfl
@[simp] theorem requestNmi_returned : (requestNmi s).returned = .nothing := rfl

/-! ### drawResetStack -/

@[simp] theorem drawResetStack_a : (drawResetStack s).a = s.a := by simp [drawResetStack]
@[simp] theorem drawResetStack_x : (drawResetStack s).x = s.x := by simp [drawResetStack]
@[simp] theorem drawResetStack_y : (drawResetStack s).y = s.y := by simp [drawResetStack]
@[simp] theorem drawResetStack_pc : (drawResetStack s).pc = s.pc := by simp [drawResetStack]
@[simp] theorem drawResetStack_sp : (drawResetStack s).sp = s.sp := by simp [drawResetStack]
@[simp] theorem drawResetStack_p : (drawResetStack s).p = s.p := by simp [drawResetStack]
@[simp] theorem drawResetStack_nmiPending : (drawResetStack s).nmiPending = s.nmiPending := by simp [drawResetStack]
@[simp] theorem drawResetStack_irqPending : (drawResetStack s).irqPending = s.irqPending := by simp [drawResetStack]
@[simp] theorem drawResetStack_irqInhibit : (drawResetStack s).irqInhibit = s.irqInhibit := by simp [drawResetStack]
@[simp] theorem drawResetStack_halted : (drawResetStack s).halted = s.halted := by simp [drawResetStack]
@[simp] theorem drawResetStack_bus : (drawResetStack s).bus = s.bus := by simp [drawResetStack]
@[simp] theorem drawResetStack_draws : (drawResetStack s).draws = s.draws := by simp [drawResetStack]
@[simp] theorem drawResetStack_returned : (drawResetStack s).returned = s.returned := by simp [drawResetStack]

/-! ### resetCall -/

@[simp] theorem resetCall_a : (resetCall s).a = s.a := by simp [resetCall]
@[simp] theorem resetCall_x : (resetCall s).x = s.x := by simp [resetCall]
@[simp] theorem resetCall_y : (resetCall s).y = s.y := by simp [resetCall]
@[simp] theorem resetCall_pc : (resetCall s).pc = (drawResetStack s).readWord .vectorLo .vectorHi vecReset := by simp [resetCall]
@[simp] theorem resetCall_sp : (resetCall s).sp = spReset := by simp [resetCall]
@[simp] theorem resetCall_p : (resetCall s).p = pReset := by simp [resetCall]
@[simp] theorem resetCall_nmiPending : (resetCall s).nmiPending = false := by simp [resetCall]
@[simp] theorem resetCall_irqPending : (resetCall s).irqPending = false := by simp [resetCall]
@[simp] theorem resetCall_irqInhibit : (resetCall s).irqInhibit = true := by simp [resetCall]
@[simp] theorem resetCall_halted : (resetCall s).halted = false := by simp [resetCall]
@[simp] theorem resetCall_mem : (resetCall s).mem = (drawResetStack s).mem := by simp [resetCall]
@[simp] theorem resetCall_bus : (resetCall s).bus = s.bus := by simp [resetCall]
@[simp] theorem resetCall_draws : (resetCall s).draws = s.draws + 1 := by simp [resetCall]
@[simp] theorem resetCall_returned : (resetCall s).returned = .cycles interruptCycles := by simp [resetCall]

end Sys2Proof.Machine
end

