-- ==== Sys2Proof/Laws/Memory.lean ====
section
/-! SUPPORT. The laws of the passive store, and that every memory operation keeps its canonical form. -/

namespace Sys2Proof.Machine

/-! ### Keys -/

/-- The key of an address is its region's base plus a cell of the region: the five windows of R81. -/
theorem cellKey_cases (a : Word) :
    (a.toNat < 0x2000 ∧ cellKey a = a.toNat % 0x800) ∨
    (0x2000 ≤ a.toNat ∧ a.toNat < 0x4000 ∧ cellKey a = 0x2000 + a.toNat % 8) ∨
    (0x4000 ≤ a.toNat ∧ cellKey a = a.toNat) := by
  unfold cellKey route
  split_ifs <;> simp [regionBase, cartBase] <;> omega

theorem cellKey_lt (a : Word) : cellKey a < 0x10000 := by
  have := a.isLt
  rcases cellKey_cases a with h | h | h <;> omega

/-- A key is the key of the address it names: mirroring is idempotent. -/
theorem cellKey_ofNat_cellKey (a : Word) : cellKey (BitVec.ofNat 16 (cellKey a)) = cellKey a := by
  have hlt := cellKey_lt a
  have hb : (BitVec.ofNat 16 (cellKey a)).toNat = cellKey a := by simp; omega
  rcases cellKey_cases a with h | h | h <;>
    rcases cellKey_cases (BitVec.ofNat 16 (cellKey a)) with h' | h' | h' <;> rw [hb] at h' <;> omega

theorem isCellKey_cellKey (a : Word) : isCellKey (cellKey a) = true := by
  simp [isCellKey, cellKey_lt, cellKey_ofNat_cellKey]

/-- A cartridge byte is its own cell. -/
theorem isCellKey_cart (k : Nat) (h : k < cartSize) : isCellKey (cartBase + k) = true := by
  simp only [cartSize] at h
  have hb : (BitVec.ofNat 16 (cartBase + k)).toNat = cartBase + k := by simp [cartBase]; omega
  have hc : cellKey (BitVec.ofNat 16 (cartBase + k)) = cartBase + k := by
    rcases cellKey_cases (BitVec.ofNat 16 (cartBase + k)) with h' | h' | h' <;> rw [hb] at h' <;>
      simp only [cartBase] at * <;> omega
  simp [isCellKey, hc]
  simp only [cartBase]; omega

/-! ### The canonical form -/

theorem Memory.wfFrom_mono {m : Memory} {lo lo' : Nat} (h : m.wfFrom lo = true) (hl : lo' ≤ lo) :
    m.wfFrom lo' = true := by
  cases m with
  | nil => rfl
  | cons c rest =>
    simp only [Memory.wfFrom, Bool.and_eq_true, decide_eq_true_eq] at h ⊢
    exact ⟨⟨⟨by omega, h.1.1.2⟩, h.1.2⟩, h.2⟩

/-- Below its first key a canonical memory lists nothing. -/
theorem Memory.read_of_lt {m : Memory} {lo k : Nat} (h : m.wfFrom lo = true) (hk : k < lo) :
    m.read k = Memory.blank := by
  induction m generalizing lo with
  | nil => rfl
  | cons c rest ih =>
    simp only [Memory.wfFrom, Bool.and_eq_true, decide_eq_true_eq] at h
    have hne : c.1 ≠ k := by omega
    simp only [Memory.read, if_neg hne]
    exact ih h.2 (by omega)

theorem Memory.wfFrom_write {m : Memory} {lo k : Nat} (v : Byte) (h : m.wfFrom lo = true) (hl : lo ≤ k)
    (hk : isCellKey k = true) : (m.write k v).wfFrom lo = true := by
  induction m generalizing lo with
  | nil =>
    unfold Memory.write
    split_ifs with hv <;> simp [Memory.wfFrom, *]
  | cons c rest ih =>
    obtain ⟨j, w⟩ := c
    simp only [Memory.wfFrom, Bool.and_eq_true, decide_eq_true_eq] at h
    obtain ⟨⟨⟨hj, hjk⟩, hw⟩, hrest⟩ := h
    unfold Memory.write
    split_ifs with h1 h2 h3 h4
    · simp [Memory.wfFrom, *]
    · simp [Memory.wfFrom, *]
    · exact Memory.wfFrom_mono hrest (by omega)
    · subst h3; simp [Memory.wfFrom, *]
    · simp [Memory.wfFrom, *]
      exact ih hrest (by omega)

/-- A write keeps the canonical form. -/
theorem Memory.wf_write {m : Memory} {k : Nat} (v : Byte) (h : m.wf = true) (hk : isCellKey k = true) :
    (m.write k v).wf = true :=
  Memory.wfFrom_write v h (Nat.zero_le k) hk

/-- The cells of an image are canonical. -/
theorem imageCells_wfFrom (image : Nat → Byte) (k n : Nat) (h : k + n ≤ cartSize) :
    (imageCells image k n).wfFrom (cartBase + k) = true := by
  induction n generalizing k with
  | zero => rfl
  | succ n ih =>
    unfold imageCells
    split_ifs with hb
    · exact Memory.wfFrom_mono (ih (k + 1) (by omega)) (by omega)
    · simp only [Memory.wfFrom, Bool.and_eq_true, decide_eq_true_eq]
      exact ⟨⟨⟨le_refl _, isCellKey_cart k (by omega)⟩, hb⟩, ih (k + 1) (by omega)⟩

theorem powerOn_mem_wf (bus : Bus) (image : Nat → Byte) : (powerOn bus image).mem.wf = true :=
  Memory.wfFrom_mono (imageCells_wfFrom image 0 cartSize (by omega)) (Nat.zero_le _)

theorem State.memWrite_wf {s : State} (w : Word) (v : Byte) (h : s.mem.wf = true) :
    (s.memWrite w v).mem.wf = true := by
  unfold State.memWrite
  dsimp only
  split_ifs
  · exact h
  · exact Memory.wf_write v h (isCellKey_cellKey w)

theorem State.push_wf {s : State} (v : Byte) (h : s.mem.wf = true) : (s.push v).mem.wf = true :=
  State.memWrite_wf _ v h

theorem State.pushWord_wf {s : State} (w : Word) (h : s.mem.wf = true) : (s.pushWord w).mem.wf = true :=
  State.push_wf _ (State.push_wf _ h)

theorem enterHandler_wf {s : State} (b : Byte) (v : Word) (h : s.mem.wf = true) :
    (enterHandler b v s).mem.wf = true :=
  State.push_wf _ (State.pushWord_wf _ h)

theorem takeNmi_wf {s : State} (h : s.mem.wf = true) : (takeNmi s).mem.wf = true := by
  simp only [takeNmi, interruptSequence, State.finishInterrupt_mem]
  exact enterHandler_wf _ _ h

theorem takeIrq_wf {s : State} (h : s.mem.wf = true) : (takeIrq s).mem.wf = true := by
  simp only [takeIrq, interruptSequence, State.finishInterrupt_mem]
  exact enterHandler_wf _ _ h

theorem drawResetStack_wf {s : State} (h : s.mem.wf = true) : (drawResetStack s).mem.wf = true :=
  State.memWrite_wf _ _ (State.memWrite_wf _ _ (State.memWrite_wf _ _ h))

theorem resetCall_wf {s : State} (h : s.mem.wf = true) : (resetCall s).mem.wf = true := by
  simp only [resetCall_mem]
  exact drawResetStack_wf h

theorem State.placeBytes_wf {s : State} (bytes : List Byte) (h : s.mem.wf = true) :
    (s.placeBytes bytes).mem.wf = true := by
  unfold State.placeBytes
  dsimp only
  generalize ((List.range bytes.length).map fun k => s.pc + BitVec.ofNat 16 k).zip bytes = cs
  have key : ∀ (cs : List (Word × Byte)) (m : Memory), m.wf = true →
      (cs.foldl (fun m c => Memory.write m (cellKey c.1) c.2) m).wf = true := by
    intro cs
    induction cs with
    | nil => intro m hm; exact hm
    | cons c rest ih => intro m hm; exact ih _ (Memory.wf_write c.2 hm (isCellKey_cellKey c.1))
  exact key cs s.mem h

theorem reset_mem_wf : State.reset.mem.wf = true := rfl

/-! ### Reading after a write -/

theorem Memory.read_write_other (m : Memory) {k j : Nat} (v : Byte) (h : j ≠ k) :
    (m.write k v).read j = m.read j := by
  induction m with
  | nil =>
    unfold Memory.write
    split_ifs
    · rfl
    · simp [Memory.read, Ne.symm h]
  | cons c rest ih =>
    obtain ⟨i, w⟩ := c
    unfold Memory.write
    split_ifs with h1 h2 h3 h4
    · rfl
    · simp [Memory.read, Ne.symm h]
    · subst h3; simp [Memory.read, Ne.symm h]
    · subst h3; simp [Memory.read, Ne.symm h]
    · simp [Memory.read, ih]

theorem Memory.read_write_same {m : Memory} {lo : Nat} (k : Nat) (v : Byte) (h : m.wfFrom lo = true) :
    (m.write k v).read k = v := by
  induction m generalizing lo with
  | nil =>
    unfold Memory.write
    split_ifs with hv <;> simp [Memory.read, hv]
  | cons c rest ih =>
    obtain ⟨j, w⟩ := c
    have hcons := h
    simp only [Memory.wfFrom, Bool.and_eq_true, decide_eq_true_eq] at h
    obtain ⟨⟨⟨hj, hjk⟩, hw⟩, hrest⟩ := h
    have hfrom : Memory.wfFrom j ((j, w) :: rest) = true := by simp [Memory.wfFrom, *]
    unfold Memory.write
    split_ifs with h1 h2 h3 h4
    · rw [Memory.read_of_lt hfrom h1, h2]
    · simp [Memory.read]
    · subst h3; rw [Memory.read_of_lt hrest (Nat.lt_succ_self k), h4]
    · simp [Memory.read]
    · simp [Memory.read, Ne.symm h3, ih hrest]

/-- A byte of the store after a port write: the written byte at every alias of the cell, unless a collaborator
answers there; the old byte elsewhere (R82, R83). -/
theorem State.stored_memWrite {s : State} (w b : Word) (v : Byte) (h : s.mem.wf = true) :
    (s.memWrite w v).stored b = if cellKey b = cellKey w ∧ s.isDevice w = false then v else s.stored b := by
  unfold State.memWrite State.stored
  dsimp only
  by_cases hd : s.isDevice w = true
  · simp [hd]
  · simp only [Bool.not_eq_true] at hd
    by_cases hk : cellKey b = cellKey w
    · simp [hd, hk, Memory.read_write_same _ v h]
    · simp [hd, hk, Memory.read_write_other _ v hk]

/-! ### The stack page -/

theorem stackAddr_toNat (sp : Byte) : (stackAddr sp).toNat = 0x100 + sp.toNat := by
  have := sp.isLt
  show (stackPage ++ sp).toNat = 0x100 + sp.toNat
  rw [BitVec.toNat_append, ← Nat.shiftLeft_add_eq_or_of_lt this]
  rfl

/-- The stack page lies in internal RAM: no collaborator answers there (R84, R80). -/
theorem isDevice_stackAddr (s : State) (sp : Byte) : s.isDevice (stackAddr sp) = false := by
  have h := stackAddr_toNat sp
  have := sp.isLt
  have hlow : ¬ deviceBase ≤ (stackAddr sp).toNat := by simp only [deviceBase]; omega
  unfold State.isDevice
  split
  · rfl
  · rw [decide_eq_false hlow, Bool.false_and]

theorem cellKey_stackAddr (sp : Byte) : cellKey (stackAddr sp) = 0x100 + sp.toNat := by
  have h := stackAddr_toNat sp
  have := sp.isLt
  rcases cellKey_cases (stackAddr sp) with h' | h' | h' <;> omega

/-- The zero page lies in internal RAM. -/
theorem isDevice_zext16 (s : State) (b : Byte) : s.isDevice (zext16 b) = false := by
  have := b.isLt
  have hlow : ¬ deviceBase ≤ (zext16 b).toNat := by rw [zext16_toNat]; simp only [deviceBase]; omega
  unfold State.isDevice
  split
  · rfl
  · rw [decide_eq_false hlow, Bool.false_and]

theorem State.memRead_of_not_device {s : State} {a : Word} (k : Access) (h : s.isDevice a = false) :
    s.memRead k a = s.stored a := by
  simp [State.memRead, h]

end Sys2Proof.Machine
end

