-- ==== Sys2Proof/Laws/Operands.lean ====
section
/-! SUPPORT. What each shared operation of the resolver and of the step can do, said once. -/

namespace Sys2Proof.Machine

/-! ### The resolver does not depend on PC -/

@[simp] theorem getAddress_advance (o : Operand) (s : State) (n : Nat) :
    getAddress o (s.advance n) = getAddress o s := by cases o <;> rfl

@[simp] theorem readOperand_advance (o : Operand) (s : State) (n : Nat) :
    readOperand o (s.advance n) = readOperand o s := by cases o <;> rfl

/-! ### Every form but the address-less ones has an address; read_operand reads there -/

/-- `read_operand` of a form with an address reads the byte there (R149). -/
theorem readOperand_of_address {o : Operand} {s : State} {ea : Resolved} (h : getAddress o s = .ok ea) :
    readOperand o s = .ok (s.memRead .data ea.addr, ea.crossed) := by
  cases o <;> simp_all [readOperand, getAddress]

/-- `write_operand` of a form with an address writes the byte there (R152). -/
theorem writeOperand_of_address {o : Operand} {s : State} {ea : Resolved} (v : Byte) (h : getAddress o s = .ok ea) :
    writeOperand o v s = .ok (s.memWrite ea.addr v, ea.crossed) := by
  cases o <;> simp_all [writeOperand, getAddress]

/-- `rmw` of a form with an address reads and writes there once (R153). -/
theorem readModifyWrite_of_address {o : Operand} {s : State} {ea : Resolved} (f : Byte → State → Byte × State)
    (h : getAddress o s = .ok ea) :
    readModifyWrite o f s =
      .ok ((f (s.memRead .data ea.addr) s).2.memWrite ea.addr (f (s.memRead .data ea.addr) s).1, ea.crossed) := by
  cases o <;> simp_all [readModifyWrite, getAddress]

/-! ### The shapes of an instruction -/

theorem withValue_of_read {op : Byte} {o : Operand} {s : State} {f : Byte → State → State} {v : Byte} {c : Bool}
    (h : readOperand o s = .ok (v, c)) :
    withValue op o s f = .next ((f v (s.advance o.length)).finish op c 0) := by
  simp [withValue, h]

theorem withStore_of_address {op : Byte} {o : Operand} {s : State} {v : Byte} {ea : Resolved}
    (h : getAddress o s = .ok ea) :
    withStore op o s v = .next (((s.advance o.length).memWrite ea.addr v).finish op ea.crossed 0) := by
  have h' : getAddress o (s.advance o.length) = .ok ea := by simpa using h
  simp [withStore, writeOperand_of_address v h']

theorem withModify_of_address {op : Byte} {o : Operand} {s : State} {f : Byte → State → Byte × State} {ea : Resolved}
    (h : getAddress o s = .ok ea) :
    withModify op o s f =
      .next (((f (s.memRead .data ea.addr) (s.advance o.length)).2.memWrite ea.addr
        (f (s.memRead .data ea.addr) (s.advance o.length)).1).finish op ea.crossed 0) := by
  have h' : getAddress o (s.advance o.length) = .ok ea := by simpa using h
  simp [withModify, readModifyWrite_of_address f h']

theorem withModify_accumulator {op : Byte} {s : State} {f : Byte → State → Byte × State} :
    withModify op .accumulator s f =
      .next (((f s.a (s.advance 1)).2.setA (f s.a (s.advance 1)).1).finish op false 0) := rfl

/-- Whatever the form, an instruction that reads an operand ends its step, completed or by a misuse that halts. -/
theorem withValue_cases (op : Byte) (o : Operand) (s : State) (f : Byte → State → State) :
    (∃ v c, readOperand o s = .ok (v, c) ∧ withValue op o s f = .next ((f v (s.advance o.length)).finish op c 0)) ∨
    (∃ m, readOperand o s = .error m ∧ withValue op o s f = .next ((s.advance o.length).halt (.resolverMisuse m))) := by
  cases h : readOperand o s with
  | ok r => exact .inl ⟨r.1, r.2, rfl, withValue_of_read h⟩
  | error m => exact .inr ⟨m, rfl, by simp [withValue, h, misuse]⟩

/-! ### Cycle counts -/

/-- Every documented entry costs 2 to 7 cycles, the page penalty included; a relative one costs 2 with no penalty. -/
theorem entry_cycles (op : Byte) (e : Entry) (h : entry op = some e) :
    2 ≤ e.cycles ∧ e.cycles + (if e.pagePenalty then 1 else 0) ≤ 7 ∧
      (e.mode = .relative → e.cycles = 2 ∧ e.pagePenalty = false) := by
  have key : ∀ op : Byte, (entry op).all (fun e => decide (2 ≤ e.cycles ∧
      e.cycles + (if e.pagePenalty then 1 else 0) ≤ 7 ∧
      (e.mode = .relative → e.cycles = 2 ∧ e.pagePenalty = false))) = true := by decide +kernel
  have := key op
  rw [h] at this
  exact of_decide_eq_true this

/-- A completed instruction that is no taken branch returns 2 to 7 cycles (R354, R382). -/
theorem cyclesOf_bounds (op : Byte) (c : Bool) (h : (entry op).isSome = true) :
    2 ≤ cyclesOf op c 0 ∧ cyclesOf op c 0 ≤ 7 := by
  obtain ⟨e, he⟩ := Option.isSome_iff_exists.mp h
  obtain ⟨h1, h2, -⟩ := entry_cycles op e he
  have hp : (if (e.pagePenalty && c) = true then 1 else 0) ≤ (if e.pagePenalty then 1 else 0) := by
    cases c <;> simp
  simp only [cyclesOf, he]
  omega

/-! ### The poll -/

theorem State.poll_instruction {s : State} (h : s.halted = false) (hn : s.nmiPending = false)
    (hi : (s.irqPending && !s.irqInhibit) = false) : s.poll = .instruction := by
  simp [State.poll, h, hn, hi]

theorem State.poll_nmi {s : State} (h : s.halted = false) (hn : s.nmiPending = true) : s.poll = .nmi := by
  simp [State.poll, h, hn]

theorem State.poll_irq {s : State} (h : s.halted = false) (hn : s.nmiPending = false) (hi : s.irqPending = true)
    (hm : s.irqInhibit = false) : s.poll = .irq := by
  simp [State.poll, h, hn, hi, hm]

theorem State.poll_stuck {s : State} (h : s.halted = true) : s.poll = .stuck := by
  simp [State.poll, h]

end Sys2Proof.Machine
end

