-- ==== Sys2Proof/Laws/PerInstr.lean ====
section
/-! SUPPORT. Statements made for every instruction, one lemma for each constructor. -/

namespace Sys2Proof.Laws.EncodedLength

/-- The encoder lays out exactly as many bytes as the decoder takes for the opcode: one more than its operand bytes
(R109, R110). -/
def Statement (i : Instr) : Prop := i.wellFormed = true → (encode i).length = operandCount i.opcode + 1

/-- An undocumented opcode takes no operand byte (R107, R318). -/
theorem operandCount_undocumented : ∀ op : Byte, isUndocumented op = true → operandCount op = 0 := by decide +kernel

theorem brk (pad : Byte) : Statement (.brk pad) := fun _ => rfl
theorem oraIndexedIndirect (zp : Byte) : Statement (.oraIndexedIndirect zp) := fun _ => rfl
theorem oraZeroPage (zp : Byte) : Statement (.oraZeroPage zp) := fun _ => rfl
theorem aslZeroPage (zp : Byte) : Statement (.aslZeroPage zp) := fun _ => rfl
theorem php : Statement .php := fun _ => rfl
theorem oraImmediate (imm : Byte) : Statement (.oraImmediate imm) := fun _ => rfl
theorem aslAccumulator : Statement .aslAccumulator := fun _ => rfl
theorem oraAbsolute (addr : Word) : Statement (.oraAbsolute addr) := fun _ => rfl
theorem aslAbsolute (addr : Word) : Statement (.aslAbsolute addr) := fun _ => rfl
theorem bpl (off : Byte) : Statement (.bpl off) := fun _ => rfl
theorem oraIndirectIndexed (zp : Byte) : Statement (.oraIndirectIndexed zp) := fun _ => rfl
theorem oraZeroPageX (zp : Byte) : Statement (.oraZeroPageX zp) := fun _ => rfl
theorem aslZeroPageX (zp : Byte) : Statement (.aslZeroPageX zp) := fun _ => rfl
theorem clc : Statement .clc := fun _ => rfl
theorem oraAbsoluteY (addr : Word) : Statement (.oraAbsoluteY addr) := fun _ => rfl
theorem oraAbsoluteX (addr : Word) : Statement (.oraAbsoluteX addr) := fun _ => rfl
theorem aslAbsoluteX (addr : Word) : Statement (.aslAbsoluteX addr) := fun _ => rfl
theorem jsr (addr : Word) : Statement (.jsr addr) := fun _ => rfl
theorem andIndexedIndirect (zp : Byte) : Statement (.andIndexedIndirect zp) := fun _ => rfl
theorem bitZeroPage (zp : Byte) : Statement (.bitZeroPage zp) := fun _ => rfl
theorem andZeroPage (zp : Byte) : Statement (.andZeroPage zp) := fun _ => rfl
theorem rolZeroPage (zp : Byte) : Statement (.rolZeroPage zp) := fun _ => rfl
theorem plp : Statement .plp := fun _ => rfl
theorem andImmediate (imm : Byte) : Statement (.andImmediate imm) := fun _ => rfl
theorem rolAccumulator : Statement .rolAccumulator := fun _ => rfl
theorem bitAbsolute (addr : Word) : Statement (.bitAbsolute addr) := fun _ => rfl
theorem andAbsolute (addr : Word) : Statement (.andAbsolute addr) := fun _ => rfl
theorem rolAbsolute (addr : Word) : Statement (.rolAbsolute addr) := fun _ => rfl
theorem bmi (off : Byte) : Statement (.bmi off) := fun _ => rfl
theorem andIndirectIndexed (zp : Byte) : Statement (.andIndirectIndexed zp) := fun _ => rfl
theorem andZeroPageX (zp : Byte) : Statement (.andZeroPageX zp) := fun _ => rfl
theorem rolZeroPageX (zp : Byte) : Statement (.rolZeroPageX zp) := fun _ => rfl
theorem sec : Statement .sec := fun _ => rfl
theorem andAbsoluteY (addr : Word) : Statement (.andAbsoluteY addr) := fun _ => rfl
theorem andAbsoluteX (addr : Word) : Statement (.andAbsoluteX addr) := fun _ => rfl
theorem rolAbsoluteX (addr : Word) : Statement (.rolAbsoluteX addr) := fun _ => rfl
theorem rti : Statement .rti := fun _ => rfl
theorem eorIndexedIndirect (zp : Byte) : Statement (.eorIndexedIndirect zp) := fun _ => rfl
theorem eorZeroPage (zp : Byte) : Statement (.eorZeroPage zp) := fun _ => rfl
theorem lsrZeroPage (zp : Byte) : Statement (.lsrZeroPage zp) := fun _ => rfl
theorem pha : Statement .pha := fun _ => rfl
theorem eorImmediate (imm : Byte) : Statement (.eorImmediate imm) := fun _ => rfl
theorem lsrAccumulator : Statement .lsrAccumulator := fun _ => rfl
theorem jmpAbsolute (addr : Word) : Statement (.jmpAbsolute addr) := fun _ => rfl
theorem eorAbsolute (addr : Word) : Statement (.eorAbsolute addr) := fun _ => rfl
theorem lsrAbsolute (addr : Word) : Statement (.lsrAbsolute addr) := fun _ => rfl
theorem bvc (off : Byte) : Statement (.bvc off) := fun _ => rfl
theorem eorIndirectIndexed (zp : Byte) : Statement (.eorIndirectIndexed zp) := fun _ => rfl
theorem eorZeroPageX (zp : Byte) : Statement (.eorZeroPageX zp) := fun _ => rfl
theorem lsrZeroPageX (zp : Byte) : Statement (.lsrZeroPageX zp) := fun _ => rfl
theorem cli : Statement .cli := fun _ => rfl
theorem eorAbsoluteY (addr : Word) : Statement (.eorAbsoluteY addr) := fun _ => rfl
theorem eorAbsoluteX (addr : Word) : Statement (.eorAbsoluteX addr) := fun _ => rfl
theorem lsrAbsoluteX (addr : Word) : Statement (.lsrAbsoluteX addr) := fun _ => rfl
theorem rts : Statement .rts := fun _ => rfl
theorem adcIndexedIndirect (zp : Byte) : Statement (.adcIndexedIndirect zp) := fun _ => rfl
theorem adcZeroPage (zp : Byte) : Statement (.adcZeroPage zp) := fun _ => rfl
theorem rorZeroPage (zp : Byte) : Statement (.rorZeroPage zp) := fun _ => rfl
theorem pla : Statement .pla := fun _ => rfl
theorem adcImmediate (imm : Byte) : Statement (.adcImmediate imm) := fun _ => rfl
theorem rorAccumulator : Statement .rorAccumulator := fun _ => rfl
theorem jmpIndirect (ptr : Word) : Statement (.jmpIndirect ptr) := fun _ => rfl
theorem adcAbsolute (addr : Word) : Statement (.adcAbsolute addr) := fun _ => rfl
theorem rorAbsolute (addr : Word) : Statement (.rorAbsolute addr) := fun _ => rfl
theorem bvs (off : Byte) : Statement (.bvs off) := fun _ => rfl
theorem adcIndirectIndexed (zp : Byte) : Statement (.adcIndirectIndexed zp) := fun _ => rfl
theorem adcZeroPageX (zp : Byte) : Statement (.adcZeroPageX zp) := fun _ => rfl
theorem rorZeroPageX (zp : Byte) : Statement (.rorZeroPageX zp) := fun _ => rfl
theorem sei : Statement .sei := fun _ => rfl
theorem adcAbsoluteY (addr : Word) : Statement (.adcAbsoluteY addr) := fun _ => rfl
theorem adcAbsoluteX (addr : Word) : Statement (.adcAbsoluteX addr) := fun _ => rfl
theorem rorAbsoluteX (addr : Word) : Statement (.rorAbsoluteX addr) := fun _ => rfl
theorem staIndexedIndirect (zp : Byte) : Statement (.staIndexedIndirect zp) := fun _ => rfl
theorem styZeroPage (zp : Byte) : Statement (.styZeroPage zp) := fun _ => rfl
theorem staZeroPage (zp : Byte) : Statement (.staZeroPage zp) := fun _ => rfl
theorem stxZeroPage (zp : Byte) : Statement (.stxZeroPage zp) := fun _ => rfl
theorem dey : Statement .dey := fun _ => rfl
theorem txa : Statement .txa := fun _ => rfl
theorem styAbsolute (addr : Word) : Statement (.styAbsolute addr) := fun _ => rfl
theorem staAbsolute (addr : Word) : Statement (.staAbsolute addr) := fun _ => rfl
theorem stxAbsolute (addr : Word) : Statement (.stxAbsolute addr) := fun _ => rfl
theorem bcc (off : Byte) : Statement (.bcc off) := fun _ => rfl
theorem staIndirectIndexed (zp : Byte) : Statement (.staIndirectIndexed zp) := fun _ => rfl
theorem styZeroPageX (zp : Byte) : Statement (.styZeroPageX zp) := fun _ => rfl
theorem staZeroPageX (zp : Byte) : Statement (.staZeroPageX zp) := fun _ => rfl
theorem stxZeroPageY (zp : Byte) : Statement (.stxZeroPageY zp) := fun _ => rfl
theorem tya : Statement .tya := fun _ => rfl
theorem staAbsoluteY (addr : Word) : Statement (.staAbsoluteY addr) := fun _ => rfl
theorem txs : Statement .txs := fun _ => rfl
theorem staAbsoluteX (addr : Word) : Statement (.staAbsoluteX addr) := fun _ => rfl
theorem ldyImmediate (imm : Byte) : Statement (.ldyImmediate imm) := fun _ => rfl
theorem ldaIndexedIndirect (zp : Byte) : Statement (.ldaIndexedIndirect zp) := fun _ => rfl
theorem ldxImmediate (imm : Byte) : Statement (.ldxImmediate imm) := fun _ => rfl
theorem ldyZeroPage (zp : Byte) : Statement (.ldyZeroPage zp) := fun _ => rfl
theorem ldaZeroPage (zp : Byte) : Statement (.ldaZeroPage zp) := fun _ => rfl
theorem ldxZeroPage (zp : Byte) : Statement (.ldxZeroPage zp) := fun _ => rfl
theorem tay : Statement .tay := fun _ => rfl
theorem ldaImmediate (imm : Byte) : Statement (.ldaImmediate imm) := fun _ => rfl
theorem tax : Statement .tax := fun _ => rfl
theorem ldyAbsolute (addr : Word) : Statement (.ldyAbsolute addr) := fun _ => rfl
theorem ldaAbsolute (addr : Word) : Statement (.ldaAbsolute addr) := fun _ => rfl
theorem ldxAbsolute (addr : Word) : Statement (.ldxAbsolute addr) := fun _ => rfl
theorem bcs (off : Byte) : Statement (.bcs off) := fun _ => rfl
theorem ldaIndirectIndexed (zp : Byte) : Statement (.ldaIndirectIndexed zp) := fun _ => rfl
theorem ldyZeroPageX (zp : Byte) : Statement (.ldyZeroPageX zp) := fun _ => rfl
theorem ldaZeroPageX (zp : Byte) : Statement (.ldaZeroPageX zp) := fun _ => rfl
theorem ldxZeroPageY (zp : Byte) : Statement (.ldxZeroPageY zp) := fun _ => rfl
theorem clv : Statement .clv := fun _ => rfl
theorem ldaAbsoluteY (addr : Word) : Statement (.ldaAbsoluteY addr) := fun _ => rfl
theorem tsx : Statement .tsx := fun _ => rfl
theorem ldyAbsoluteX (addr : Word) : Statement (.ldyAbsoluteX addr) := fun _ => rfl
theorem ldaAbsoluteX (addr : Word) : Statement (.ldaAbsoluteX addr) := fun _ => rfl
theorem ldxAbsoluteY (addr : Word) : Statement (.ldxAbsoluteY addr) := fun _ => rfl
theorem cpyImmediate (imm : Byte) : Statement (.cpyImmediate imm) := fun _ => rfl
theorem cmpIndexedIndirect (zp : Byte) : Statement (.cmpIndexedIndirect zp) := fun _ => rfl
theorem cpyZeroPage (zp : Byte) : Statement (.cpyZeroPage zp) := fun _ => rfl
theorem cmpZeroPage (zp : Byte) : Statement (.cmpZeroPage zp) := fun _ => rfl
theorem decZeroPage (zp : Byte) : Statement (.decZeroPage zp) := fun _ => rfl
theorem iny : Statement .iny := fun _ => rfl
theorem cmpImmediate (imm : Byte) : Statement (.cmpImmediate imm) := fun _ => rfl
theorem dex : Statement .dex := fun _ => rfl
theorem cpyAbsolute (addr : Word) : Statement (.cpyAbsolute addr) := fun _ => rfl
theorem cmpAbsolute (addr : Word) : Statement (.cmpAbsolute addr) := fun _ => rfl
theorem decAbsolute (addr : Word) : Statement (.decAbsolute addr) := fun _ => rfl
theorem bne (off : Byte) : Statement (.bne off) := fun _ => rfl
theorem cmpIndirectIndexed (zp : Byte) : Statement (.cmpIndirectIndexed zp) := fun _ => rfl
theorem cmpZeroPageX (zp : Byte) : Statement (.cmpZeroPageX zp) := fun _ => rfl
theorem decZeroPageX (zp : Byte) : Statement (.decZeroPageX zp) := fun _ => rfl
theorem cld : Statement .cld := fun _ => rfl
theorem cmpAbsoluteY (addr : Word) : Statement (.cmpAbsoluteY addr) := fun _ => rfl
theorem cmpAbsoluteX (addr : Word) : Statement (.cmpAbsoluteX addr) := fun _ => rfl
theorem decAbsoluteX (addr : Word) : Statement (.decAbsoluteX addr) := fun _ => rfl
theorem cpxImmediate (imm : Byte) : Statement (.cpxImmediate imm) := fun _ => rfl
theorem sbcIndexedIndirect (zp : Byte) : Statement (.sbcIndexedIndirect zp) := fun _ => rfl
theorem cpxZeroPage (zp : Byte) : Statement (.cpxZeroPage zp) := fun _ => rfl
theorem sbcZeroPage (zp : Byte) : Statement (.sbcZeroPage zp) := fun _ => rfl
theorem incZeroPage (zp : Byte) : Statement (.incZeroPage zp) := fun _ => rfl
theorem inx : Statement .inx := fun _ => rfl
theorem sbcImmediate (imm : Byte) : Statement (.sbcImmediate imm) := fun _ => rfl
theorem nop : Statement .nop := fun _ => rfl
theorem cpxAbsolute (addr : Word) : Statement (.cpxAbsolute addr) := fun _ => rfl
theorem sbcAbsolute (addr : Word) : Statement (.sbcAbsolute addr) := fun _ => rfl
theorem incAbsolute (addr : Word) : Statement (.incAbsolute addr) := fun _ => rfl
theorem beq (off : Byte) : Statement (.beq off) := fun _ => rfl
theorem sbcIndirectIndexed (zp : Byte) : Statement (.sbcIndirectIndexed zp) := fun _ => rfl
theorem sbcZeroPageX (zp : Byte) : Statement (.sbcZeroPageX zp) := fun _ => rfl
theorem incZeroPageX (zp : Byte) : Statement (.incZeroPageX zp) := fun _ => rfl
theorem sed : Statement .sed := fun _ => rfl
theorem sbcAbsoluteY (addr : Word) : Statement (.sbcAbsoluteY addr) := fun _ => rfl
theorem sbcAbsoluteX (addr : Word) : Statement (.sbcAbsoluteX addr) := fun _ => rfl
theorem incAbsoluteX (addr : Word) : Statement (.incAbsoluteX addr) := fun _ => rfl
theorem ill (op : Byte) : Statement (.ill op) := fun h => congrArg (· + 1) (operandCount_undocumented op h).symm

end Sys2Proof.Laws.EncodedLength
end

