-- ==== Sys2Proof/Laws/Status.lean ====
section
/-! SUPPORT. The flag updater's operations and the port's writes in the terms of Safety. -/

namespace Sys2Proof.Machine

/-- Bit 7 is the sign of a byte (R12). -/
theorem bit7_eq_decide (v : Byte) : v[7] = decide (128 ≤ v.toNat) := by
  revert v; decide

/-- One written flag. -/
theorem statusAfter_setFlag (p : Byte) (g : Flag) (b : Bool) : StatusAfter p (withFlag p g b) (oneFlag g b) := by
  refine ⟨by simp, fun f => ?_⟩
  by_cases h : f = g <;> simp [oneFlag, h]

/-- `set_zn` (R191). -/
theorem statusAfter_setZN (s : State) (v : Byte) : StatusAfter s.p (s.setZN v).p (znFlags v) := by
  refine ⟨by simp, fun f => ?_⟩
  cases f <;> simp [znFlags, bit7_eq_decide]

/-- `set_c` then `set_zn`, as shifts and comparisons do (R193). -/
theorem statusAfter_setC_setZN (s : State) (c : Bool) (v : Byte) :
    StatusAfter s.p ((s.setFlag .C c).setZN v).p (zncFlags v c) := by
  refine ⟨by simp, fun f => ?_⟩
  cases f <;> simp [zncFlags, bit7_eq_decide]

/-- `set_c`, `set_v`, then `set_zn`, as ADC and SBC do (R193). -/
theorem statusAfter_setCV_setZN (s : State) (c o : Bool) (v : Byte) :
    StatusAfter s.p (((s.setFlag .C c).setFlag .V o).setZN v).p (znvcFlags v c o) := by
  refine ⟨by simp, fun f => ?_⟩
  cases f <;> simp [znvcFlags, bit7_eq_decide]

/-- PLP's and RTI's status byte (R283, R296). -/
theorem statusAfter_pulledStatus (p v : Byte) : StatusAfter p (pulledStatus p v ||| 0x20) (pulledFlags v) := by
  rw [or_20_of_bit5 (pulledStatus_bit5 p v)]
  refine ⟨by simp, fun f => ?_⟩
  by_cases h : f = .B <;> simp [pulledFlags, h]

/-- One byte written through the port. -/
theorem storedAfter_memWrite {s : State} (a : Word) (v : Byte) (h : s.mem.wf = true) :
    StoredAfter s (s.memWrite a v).mem [(a, v)] := by
  intro b
  have := State.stored_memWrite (s := s) a b v h
  simp only [State.stored] at this ⊢
  rw [this]
  cases hd : s.isDevice a <;> by_cases hk : cellKey b = cellKey a <;> simp [hd, hk]

/-- The address of a stack slot (R38). -/
theorem stackAddr_eq (sp : Byte) : stackAddr sp = 0x0100 + zext16 sp := by
  revert sp; decide

end Sys2Proof.Machine
end

