-- ==== Sys2Proof/Laws/Stack.lean ====
section
/-! SUPPORT. What pushing, pulling and entering a handler do to memory. -/

namespace Sys2Proof.Machine

/-- A read in the stack page is the store's byte: that page is internal RAM (R84, R151). -/
theorem memRead_stackAddr (s : State) (sp : Byte) (k : Access) :
    s.memRead k (stackAddr sp) = s.stored (stackAddr sp) := by
  unfold State.memRead
  rw [isDevice_stackAddr]
  rfl

/-- A read in the zero page is the store's byte (R144, R145). -/
theorem memRead_zext16 (s : State) (b : Byte) (k : Access) : s.memRead k (zext16 b) = s.stored (zext16 b) := by
  unfold State.memRead
  rw [isDevice_zext16]
  rfl

/-- Two different stack slots are two different cells. -/
theorem cellKey_stackAddr_ne (sp k : Byte) (hk : k ≠ 0) : cellKey (stackAddr sp) ≠ cellKey (stackAddr (sp - k)) := by
  rw [cellKey_stackAddr, cellKey_stackAddr]
  intro h
  apply hk
  apply BitVec.eq_of_toNat_eq
  have := k.isLt
  have := sp.isLt
  simp at *
  omega

/-- A byte of the store after a push (R150). -/
theorem stored_push (s : State) (v : Byte) (h : s.mem.wf = true) (b : Word) :
    (s.push v).stored b = if cellKey b = cellKey (stackAddr s.sp) then v else s.stored b := by
  have := State.stored_memWrite (s := s) (stackAddr s.sp) b v h
  rw [isDevice_stackAddr] at this
  simp only [and_true] at this
  exact this

/-- Two port writes to different cells outside every collaborator. -/
theorem storedAfter_two {s : State} (h : s.mem.wf = true) {a b : Word} (v w : Byte)
    (hab : cellKey a ≠ cellKey b) (ha : s.isDevice a = false) (hb : s.isDevice b = false) :
    StoredAfter s ((s.memWrite a v).memWrite b w).mem [(a, v), (b, w)] := by
  intro c
  have h1 := State.stored_memWrite (s := s.memWrite a v) b c w (State.memWrite_wf _ _ h)
  rw [State.stored_memWrite (s := s) a c v h, State.memWrite_isDevice] at h1
  simp only [State.stored] at h1 ⊢
  rw [h1]
  by_cases p : cellKey c = cellKey a <;> by_cases q : cellKey c = cellKey b <;> simp_all

/-- Three port writes to different cells outside every collaborator. -/
theorem storedAfter_three {s : State} (h : s.mem.wf = true) {a b c : Word} (u v w : Byte)
    (hab : cellKey a ≠ cellKey b) (hac : cellKey a ≠ cellKey c) (hbc : cellKey b ≠ cellKey c)
    (ha : s.isDevice a = false) (hb : s.isDevice b = false) (hc : s.isDevice c = false) :
    StoredAfter s (((s.memWrite a u).memWrite b v).memWrite c w).mem [(a, u), (b, v), (c, w)] := by
  intro d
  have h1 := State.stored_memWrite (s := (s.memWrite a u).memWrite b v) c d w
    (State.memWrite_wf _ _ (State.memWrite_wf _ _ h))
  rw [State.stored_memWrite (s := s.memWrite a u) b d v (State.memWrite_wf _ _ h),
    State.stored_memWrite (s := s) a d u h, State.memWrite_isDevice, State.memWrite_isDevice,
    State.memWrite_isDevice] at h1
  simp only [State.stored] at h1 ⊢
  rw [h1]
  by_cases p : cellKey d = cellKey a <;> by_cases q : cellKey d = cellKey b <;> by_cases r : cellKey d = cellKey c <;>
    simp_all

/-- A pushed word: high byte at SP, low byte at SP - 1 (R73). -/
theorem storedAfter_pushWord {s : State} (h : s.mem.wf = true) (w : Word) :
    StoredAfter s (s.pushWord w).mem [(stackAddr s.sp, hiByte w), (stackAddr (s.sp - 1), loByte w)] :=
  storedAfter_two h _ _ (cellKey_stackAddr_ne _ _ (by decide)) (isDevice_stackAddr _ _) (isDevice_stackAddr _ _)

/-- What entering a handler stores: PC high, PC low and the status byte, downward from SP (R297, R340). -/
theorem storedAfter_enterHandler {s : State} (h : s.mem.wf = true) (b : Byte) (v : Word) :
    StoredAfter s (enterHandler b v s).mem
      [(stackAddr s.sp, hiByte s.pc), (stackAddr (s.sp - 1), loByte s.pc), (stackAddr (s.sp - 2), b)] := by
  have e : s.sp - 2 = s.sp - 1 - 1 := by bv_omega
  have c1 := cellKey_stackAddr_ne s.sp 2 (by decide)
  have c2 := cellKey_stackAddr_ne (s.sp - 1) 1 (by decide)
  rw [← e] at c2
  have := storedAfter_three h (hiByte s.pc) (loByte s.pc) b (cellKey_stackAddr_ne s.sp 1 (by decide)) c1 c2
    (isDevice_stackAddr _ _) (isDevice_stackAddr _ _) (isDevice_stackAddr _ _)
  rw [enterHandler_mem]
  rw [e] at this ⊢
  exact this

end Sys2Proof.Machine
end

