-- ==== Sys2Proof/Tests/Slice0.lean ====
section
/-! SUPPORT. Tests on fixed values, their expected results taken from the spec's encodings and test vectors
(95_test_vectors.md), and a witness for every obligation that has hypotheses. -/

namespace Sys2Proof.Tests

open Sys2Proof.Machine

/-! ### Helpers -/

/-- A running core on the passive platform with these registers and bytes; IRQ masked as P's I says. -/
def cpu (a x y sp p : Byte) (pc : Word) (cells : List (Word × Byte)) : State :=
  { State.reset with
    a := a, x := x, y := y, sp := sp, p := p, pc := pc, irqInhibit := flagOf p .I
    mem := cells.foldl (fun m c => m.write (cellKey c.1) c.2) [] }

/-- Whether a step answers a next state that passes the test `f`. -/
def shows (r : Result) (f : State → Bool) : Bool :=
  match r with
  | .next t => f t
  | .fault _ => false
  | .refused _ => false

/-- A small state: PC 0x8000, A 0x80, X 1, Y 2, SP 0xFD, P 0x24 (or as given). -/
def small (p : Byte := 0x24) : State := cpu 0x80 0x01 0x02 0xFD p 0x8000 []

/-! ### Well-formedness -/

/-- A documented opcode is no ILL, the only check of a term; every other operand is in range by its type. -/
theorem test_ill_of_documented_opcode_refused : (Instr.ill 0xA9).wellFormed = false := by decide

theorem test_ill_of_brk_opcode_refused : (Instr.ill 0x00).wellFormed = false := by decide

theorem test_ill_of_undocumented_opcode_accepted : (Instr.ill 0xFF).wellFormed = true := by decide

/-! ### Decoding: words written out bit by bit from the opcode map (R105) and the operand layout (R102) -/

/-- LDA #0x80: 1010_1001 1000_0000 (R210). -/
theorem test_decode_lda_immediate : decode [0b10101001, 0b10000000] = .ok (.ldaImmediate 0x80, []) := by decide

/-- STA (0x10),Y: 1001_0001 0001_0000 (R213). -/
theorem test_decode_sta_indirect_indexed : decode [0b10010001, 0b00010000] = .ok (.staIndirectIndexed 0x10, []) := by
  decide

/-- SBC 0x1234,Y: 1111_1001, low byte 0011_0100, high byte 0001_0010 (R231). -/
theorem test_decode_sbc_absolute_y :
    decode [0b11111001, 0b00110100, 0b00010010] = .ok (.sbcAbsoluteY 0x1234, []) := by decide

/-- ROR 0xF0,X: 0111_0110 1111_0000 (R253). -/
theorem test_decode_ror_zero_page_x : decode [0b01110110, 0b11110000] = .ok (.rorZeroPageX 0xF0, []) := by decide

/-- CPX #0x01: 1110_0000 0000_0001 (R261). -/
theorem test_decode_cpx_immediate : decode [0b11100000, 0b00000001] = .ok (.cpxImmediate 0x01, []) := by decide

/-- INC 0x0300,X: 1111_1110 0000_0000 0000_0011 (R270). -/
theorem test_decode_inc_absolute_x :
    decode [0b11111110, 0b00000000, 0b00000011] = .ok (.incAbsoluteX 0x0300, []) := by decide

/-- PLA: 0110_1000 (R282). -/
theorem test_decode_pla : decode [0b01101000] = .ok (.pla, []) := by decide

/-- BEQ -2: 1111_0000 1111_1110 (R308). -/
theorem test_decode_beq : decode [0b11110000, 0b11111110] = .ok (.beq 0xFE, []) := by decide

/-- CLV: 1011_1000 (R314). -/
theorem test_decode_clv : decode [0b10111000] = .ok (.clv, []) := by decide

/-- 0x04 is undocumented: ILL, one byte (R107, R318). -/
theorem test_decode_ill : decode [0b00000100, 0x11] = .ok (.ill 0x04, [0x11]) := by decide

/-- A list that ends inside an instruction is refused by name. -/
theorem test_decode_truncated : decode [0x4C, 0x00] = .error (.truncated 0x4C 2 1) := by decide

/-- A table word of JMP 0x9034 given with all its bits: the opcode in bits 7..0, the operand above. -/
theorem test_table_word : decodeTableWord 24 0x90344C = some (.jmpAbsolute 0x9034) := by decide

/-- Bits the table does not give a row are 0. -/
theorem test_table_word_short : decodeTableWord 8 0xA9 = some (.ldaImmediate 0x00) := by decide

/-- A placed table word is what the next step runs. -/
theorem test_with_fetch_word :
    shows (step (State.reset.withFetchWord 16 0x80A9)) (fun t => t.a == 0x80 && t.pc == 0x0002) = true := by decide

/-! ### Reset -/

/-- The reset state's PC is the reset vector of its memory (R372). -/
theorem test_reset_pc : State.reset.pc = State.reset.readWord .vectorLo .vectorHi 0xFFFC := by decide

/-- With nothing placed, the first step runs BRK at 0x0000, all of memory reading 0x00 (assumption log 9). -/
theorem test_reset_step :
    shows (step State.reset) (fun t => t.pc == 0x0000 && t.sp == 0xFA && t.stored 0x01FB == 0x34) = true := by decide

/-! ### One step, from the vectors of 95_test_vectors.md -/

/-- Vector V1 (R210). -/
theorem test_lda_zero : shows (step (cpu 0x00 0x00 0x00 0xFD 0x24 0x8000 [(0x8000, 0xA9), (0x8001, 0x00)]))
    (fun t => t.p == 0x26 && t.pc == 0x8002 && t.returned == .cycles 2) = true := by decide

/-- Vector V7 (R210, R144). -/
theorem test_lda_indexed_indirect : shows (step (cpu 0x00 0x01 0x00 0xFD 0x24 0x8000 [(0x0000, 0x34), (0x0001, 0x12), (0x1234, 0xC3), (0x8000, 0xA1), (0x8001, 0xFF)]))
    (fun t => t.a == 0xC3 && t.p == 0xA4 && t.pc == 0x8002 && t.returned == .cycles 6) = true := by decide

/-- Vector V8 (R210, R145). -/
theorem test_lda_pointer_wraps : shows (step (cpu 0x00 0x00 0x00 0xFD 0x24 0x8000 [(0x00FF, 0x00), (0x0000, 0x03), (0x0300, 0x99), (0x8000, 0xB1), (0x8001, 0xFF)]))
    (fun t => t.a == 0x99 && t.p == 0xA4 && t.pc == 0x8002 && t.returned == .cycles 5) = true := by decide

/-- Vector V9 (R211, R140). -/
theorem test_ldx_zero_page_y : shows (step (cpu 0x00 0x00 0x20 0xFD 0x24 0x8000 [(0x0010, 0x80), (0x8000, 0xB6), (0x8001, 0xF0)]))
    (fun t => t.x == 0x80 && t.p == 0xA4 && t.pc == 0x8002 && t.returned == .cycles 4) = true := by decide

/-- Vector V10 (R213, R142). -/
theorem test_sta_no_penalty : shows (step (cpu 0x42 0x20 0x00 0xFD 0x24 0x8000 [(0x8000, 0x9D), (0x8001, 0xF0), (0x8002, 0x12)]))
    (fun t => t.p == 0x24 && t.pc == 0x8003 && t.stored 0x1310 == 0x42 && t.returned == .cycles 5) = true := by decide

/-- Vector V13 (R215, R82). -/
theorem test_sty_ppu_mirror : shows (step (cpu 0x00 0x00 0x99 0xFD 0x24 0x8000 [(0x8000, 0x8C), (0x8001, 0x07), (0x8002, 0x30)]))
    (fun t => t.p == 0x24 && t.pc == 0x8003 && t.stored 0x3007 == 0x99 && t.returned == .cycles 4) = true := by decide

/-- Vector V14 (R220). -/
theorem test_tsx : shows (step (cpu 0x00 0x00 0x00 0x00 0x24 0x8000 [(0x8000, 0xBA)]))
    (fun t => t.p == 0x26 && t.pc == 0x8001 && t.returned == .cycles 2) = true := by decide

/-- Vector V15 (R221). -/
theorem test_txs_no_flags : shows (step (cpu 0x00 0x00 0x00 0xFD 0x26 0x8000 [(0x8000, 0x9A)]))
    (fun t => t.sp == 0x00 && t.p == 0x26 && t.pc == 0x8001 && t.returned == .cycles 2) = true := by decide

/-- Vector V22 (R230). -/
theorem test_adc_overflow : shows (step (cpu 0xD0 0x00 0x00 0xFD 0x24 0x8000 [(0x8000, 0x69), (0x8001, 0x90)]))
    (fun t => t.a == 0x60 && t.p == 0x65 && t.pc == 0x8002 && t.returned == .cycles 2) = true := by decide

/-- Vector V25 (R230, D7). -/
theorem test_adc_binary_with_d : shows (step (cpu 0x09 0x00 0x00 0xFD 0x2C 0x8000 [(0x8000, 0x69), (0x8001, 0x01)]))
    (fun t => t.a == 0x0A && t.p == 0x2C && t.pc == 0x8002 && t.returned == .cycles 2) = true := by decide

/-- Vector V31 (R231). -/
theorem test_sbc_borrow : shows (step (cpu 0x05 0x00 0x00 0xFD 0x24 0x8000 [(0x8000, 0xE9), (0x8001, 0x05)]))
    (fun t => t.a == 0xFF && t.p == 0xA4 && t.pc == 0x8002 && t.returned == .cycles 2) = true := by decide

/-- Vector V32 (R231). -/
theorem test_sbc_overflow : shows (step (cpu 0x80 0x00 0x00 0xFD 0x25 0x8000 [(0x8000, 0xE9), (0x8001, 0x01)]))
    (fun t => t.a == 0x7F && t.p == 0x65 && t.pc == 0x8002 && t.returned == .cycles 2) = true := by decide

/-- Vector V33 (R232). -/
theorem test_and_clears : shows (step (cpu 0xF0 0x00 0x00 0xFD 0x24 0x8000 [(0x8000, 0x29), (0x8001, 0x0F)]))
    (fun t => t.a == 0x00 && t.p == 0x26 && t.pc == 0x8002 && t.returned == .cycles 2) = true := by decide

/-- Vector V34 (R233). -/
theorem test_ora_zero : shows (step (cpu 0x00 0x00 0x00 0xFD 0x24 0x8000 [(0x8000, 0x09), (0x8001, 0x00)]))
    (fun t => t.p == 0x26 && t.pc == 0x8002 && t.returned == .cycles 2) = true := by decide

/-- Vector V35 (R234). -/
theorem test_eor_negative : shows (step (cpu 0x7F 0x00 0x00 0xFD 0x24 0x8000 [(0x8000, 0x49), (0x8001, 0x80)]))
    (fun t => t.a == 0xFF && t.p == 0xA4 && t.pc == 0x8002 && t.returned == .cycles 2) = true := by decide

/-- Vector V36 (R235). -/
theorem test_bit_clears_v : shows (step (cpu 0xFF 0x00 0x00 0xFD 0xE4 0x8000 [(0x0010, 0x3F), (0x8000, 0x24), (0x8001, 0x10)]))
    (fun t => t.p == 0x24 && t.pc == 0x8002 && t.returned == .cycles 3) = true := by decide

/-- Vector V37 (R235). -/
theorem test_bit_sets_n_v : shows (step (cpu 0x01 0x00 0x00 0xFD 0x24 0x8000 [(0x0200, 0xC0), (0x8000, 0x2C), (0x8001, 0x00), (0x8002, 0x02)]))
    (fun t => t.p == 0xE6 && t.pc == 0x8003 && t.returned == .cycles 4) = true := by decide

/-- Vector V40 (R250). -/
theorem test_asl_carry : shows (step (cpu 0x80 0x00 0x00 0xFD 0x24 0x8000 [(0x8000, 0x0A)]))
    (fun t => t.a == 0x00 && t.p == 0x27 && t.pc == 0x8001 && t.returned == .cycles 2) = true := by decide

/-- Vector V42 (R250, R153). -/
theorem test_asl_absolute_x : shows (step (cpu 0x00 0x20 0x00 0xFD 0x24 0x8000 [(0x1310, 0x01), (0x8000, 0x1E), (0x8001, 0xF0), (0x8002, 0x12)]))
    (fun t => t.p == 0x24 && t.pc == 0x8003 && t.stored 0x1310 == 0x02 && t.returned == .cycles 7) = true := by decide

/-- Vector V43 (R251). -/
theorem test_lsr_clears_n : shows (step (cpu 0x01 0x00 0x00 0xFD 0xA4 0x8000 [(0x8000, 0x4A)]))
    (fun t => t.a == 0x00 && t.p == 0x27 && t.pc == 0x8001 && t.returned == .cycles 2) = true := by decide

/-- Vector V45 (R252). -/
theorem test_rol_carry_in : shows (step (cpu 0x00 0x00 0x00 0xFD 0x25 0x8000 [(0x0010, 0x40), (0x8000, 0x26), (0x8001, 0x10)]))
    (fun t => t.p == 0xA4 && t.pc == 0x8002 && t.stored 0x0010 == 0x81 && t.returned == .cycles 5) = true := by decide

/-- Vector V46 (R253). -/
theorem test_ror_carry_in : shows (step (cpu 0x00 0x00 0x00 0xFD 0x25 0x8000 [(0x8000, 0x6A)]))
    (fun t => t.a == 0x80 && t.p == 0xA4 && t.pc == 0x8001 && t.returned == .cycles 2) = true := by decide

/-- Vector V47 (R253). -/
theorem test_ror_carry_out : shows (step (cpu 0x00 0x00 0x00 0xFD 0x24 0x8000 [(0x0010, 0x01), (0x8000, 0x66), (0x8001, 0x10)]))
    (fun t => t.p == 0x27 && t.pc == 0x8002 && t.stored 0x0010 == 0x00 && t.returned == .cycles 5) = true := by decide

/-- Vector V51 (R260). -/
theorem test_cmp_less : shows (step (cpu 0x40 0x00 0x00 0xFD 0x24 0x8000 [(0x8000, 0xC9), (0x8001, 0x41)]))
    (fun t => t.p == 0xA4 && t.pc == 0x8002 && t.returned == .cycles 2) = true := by decide

/-- Vector V55 (R261). -/
theorem test_cpx_equal : shows (step (cpu 0x00 0x00 0x00 0xFD 0x24 0x8000 [(0x8000, 0xE0), (0x8001, 0x00)]))
    (fun t => t.p == 0x27 && t.pc == 0x8002 && t.returned == .cycles 2) = true := by decide

/-- Vector V56 (R262). -/
theorem test_cpy_less : shows (step (cpu 0x00 0x00 0x7F 0xFD 0x24 0x8000 [(0x0200, 0x80), (0x8000, 0xCC), (0x8001, 0x00), (0x8002, 0x02)]))
    (fun t => t.p == 0xA4 && t.pc == 0x8003 && t.returned == .cycles 4) = true := by decide

/-- Vector V57 (R260, R142). -/
theorem test_cmp_page_cross : shows (step (cpu 0x05 0x20 0x00 0xFD 0x24 0x8000 [(0x1310, 0x05), (0x8000, 0xDD), (0x8001, 0xF0), (0x8002, 0x12)]))
    (fun t => t.p == 0x27 && t.pc == 0x8003 && t.returned == .cycles 5) = true := by decide

/-- Vector V60 (R270). -/
theorem test_inc_wraps : shows (step (cpu 0x00 0x00 0x00 0xFD 0x25 0x8000 [(0x0010, 0xFF), (0x8000, 0xE6), (0x8001, 0x10)]))
    (fun t => t.p == 0x27 && t.pc == 0x8002 && t.stored 0x0010 == 0x00 && t.returned == .cycles 5) = true := by decide

/-- Vector V63 (R271). -/
theorem test_dec_wraps : shows (step (cpu 0x00 0x20 0x00 0xFD 0x24 0x8000 [(0x0010, 0x00), (0x8000, 0xD6), (0x8001, 0xF0)]))
    (fun t => t.p == 0xA4 && t.pc == 0x8002 && t.stored 0x0010 == 0xFF && t.returned == .cycles 6) = true := by decide

/-- Vector V64 (R272). -/
theorem test_inx_wraps : shows (step (cpu 0x00 0xFF 0x00 0xFD 0x25 0x8000 [(0x8000, 0xE8)]))
    (fun t => t.x == 0x00 && t.p == 0x27 && t.pc == 0x8001 && t.returned == .cycles 2) = true := by decide

/-- Vector V65 (R273). -/
theorem test_iny_negative : shows (step (cpu 0x00 0x00 0x7F 0xFD 0x24 0x8000 [(0x8000, 0xC8)]))
    (fun t => t.y == 0x80 && t.p == 0xA4 && t.pc == 0x8001 && t.returned == .cycles 2) = true := by decide

/-- Vector V66 (R274). -/
theorem test_dex_wraps : shows (step (cpu 0x00 0x00 0x00 0xFD 0x24 0x8000 [(0x8000, 0xCA)]))
    (fun t => t.x == 0xFF && t.p == 0xA4 && t.pc == 0x8001 && t.returned == .cycles 2) = true := by decide

/-- Vector V67 (R275). -/
theorem test_dey_zero : shows (step (cpu 0x00 0x00 0x01 0xFD 0x24 0x8000 [(0x8000, 0x88)]))
    (fun t => t.y == 0x00 && t.p == 0x26 && t.pc == 0x8001 && t.returned == .cycles 2) = true := by decide

/-- Vector V70 (R280, R150). -/
theorem test_pha_wraps : shows (step (cpu 0x42 0x00 0x00 0x00 0x24 0x8000 [(0x8000, 0x48)]))
    (fun t => t.sp == 0xFF && t.p == 0x24 && t.pc == 0x8001 && t.stored 0x0100 == 0x42 && t.returned == .cycles 3) = true := by decide

/-- Vector V71 (R282, R151). -/
theorem test_pla_wraps : shows (step (cpu 0x00 0x00 0x00 0xFF 0x24 0x8000 [(0x0100, 0x80), (0x8000, 0x68)]))
    (fun t => t.a == 0x80 && t.sp == 0x00 && t.p == 0xA4 && t.pc == 0x8001 && t.returned == .cycles 4) = true := by decide

/-- Vector V72 (R281). -/
theorem test_php_pushes_b : shows (step (cpu 0x00 0x00 0x00 0xFD 0xE7 0x8000 [(0x8000, 0x08)]))
    (fun t => t.sp == 0xFC && t.p == 0xE7 && t.pc == 0x8001 && t.stored 0x01FD == 0xF7 && t.returned == .cycles 3) = true := by decide

/-- Vector V74 (R283). -/
theorem test_plp_ignores_b : shows (step (cpu 0x00 0x00 0x00 0xFC 0x24 0x8000 [(0x01FD, 0x10), (0x8000, 0x28)]))
    (fun t => t.sp == 0xFD && t.p == 0x20 && t.pc == 0x8001 && t.returned == .cycles 4) = true := by decide

/-- Vector V80 (R290). -/
theorem test_jmp : shows (step (cpu 0x00 0x00 0x00 0xFD 0x24 0x8000 [(0x8000, 0x4C), (0x8001, 0x34), (0x8002, 0x12)]))
    (fun t => t.p == 0x24 && t.pc == 0x1234 && t.returned == .cycles 3) = true := by decide

/-- Vector V81 (R290, R143). -/
theorem test_jmp_page_wrap : shows (step (cpu 0x00 0x00 0x00 0xFD 0x24 0x8000 [(0x02FF, 0x00), (0x0200, 0x90), (0x0300, 0x50), (0x8000, 0x6C), (0x8001, 0xFF), (0x8002, 0x02)]))
    (fun t => t.p == 0x24 && t.pc == 0x9000 && t.returned == .cycles 5) = true := by decide

/-- Vector V84 (R292, R150). -/
theorem test_jsr_stack_wraps : shows (step (cpu 0x00 0x00 0x00 0x00 0x24 0x8000 [(0x8000, 0x20), (0x8001, 0x00), (0x8002, 0x90)]))
    (fun t => t.sp == 0xFE && t.p == 0x24 && t.pc == 0x9000 && t.stored 0x0100 == 0x80 && t.stored 0x01FF == 0x02 && t.returned == .cycles 6) = true := by decide

/-- Vector V86 (R293). -/
theorem test_rts_pc_wraps : shows (step (cpu 0x00 0x00 0x00 0xFD 0x24 0x8000 [(0x01FE, 0xFF), (0x01FF, 0xFF), (0x8000, 0x60)]))
    (fun t => t.sp == 0xFF && t.p == 0x24 && t.pc == 0x0000 && t.returned == .cycles 6) = true := by decide

/-- Vector V87 (R297). -/
theorem test_brk : shows (step (cpu 0x00 0x00 0x00 0xFD 0xE3 0x8000 [(0xFFFE, 0x00), (0xFFFF, 0x90), (0x8000, 0x00), (0x8001, 0xEA)]))
    (fun t => t.sp == 0xFA && t.p == 0xE7 && t.pc == 0x9000 && t.stored 0x01FD == 0x80 && t.stored 0x01FC == 0x02 && t.stored 0x01FB == 0xF3 && t.returned == .cycles 7) = true := by decide

/-- Vector V89 (R296). -/
theorem test_rti_ignores_b : shows (step (cpu 0x00 0x00 0x00 0xFA 0x24 0x8000 [(0x01FB, 0xFF), (0x01FC, 0x34), (0x01FD, 0x12), (0x8000, 0x40)]))
    (fun t => t.sp == 0xFD && t.p == 0xEF && t.pc == 0x1234 && t.returned == .cycles 6) = true := by decide

/-- Vector V90 (R301). -/
theorem test_bpl_taken : shows (step (cpu 0x00 0x00 0x00 0xFD 0x24 0x8000 [(0x8000, 0x10), (0x8001, 0x05)]))
    (fun t => t.p == 0x24 && t.pc == 0x8007 && t.returned == .cycles 3) = true := by decide

/-- Vector V91 (R302). -/
theorem test_bmi_not_taken : shows (step (cpu 0x00 0x00 0x00 0xFD 0x24 0x8000 [(0x8000, 0x30), (0x8001, 0x05)]))
    (fun t => t.p == 0x24 && t.pc == 0x8002 && t.returned == .cycles 2) = true := by decide

/-- Vector V92 (R303). -/
theorem test_bvc_page_cross : shows (step (cpu 0x00 0x00 0x00 0xFD 0x24 0x80F0 [(0x80F0, 0x50), (0x80F1, 0x20)]))
    (fun t => t.p == 0x24 && t.pc == 0x8112 && t.returned == .cycles 4) = true := by decide

/-- Vector V93 (R304). -/
theorem test_bvs_backwards : shows (step (cpu 0x00 0x00 0x00 0xFD 0x64 0x8000 [(0x8000, 0x70), (0x8001, 0xFE)]))
    (fun t => t.p == 0x64 && t.pc == 0x8000 && t.returned == .cycles 3) = true := by decide

/-- Vector V94 (R305). -/
theorem test_bcc_backwards_cross : shows (step (cpu 0x00 0x00 0x00 0xFD 0x24 0x8010 [(0x8010, 0x90), (0x8011, 0x80)]))
    (fun t => t.p == 0x24 && t.pc == 0x7F92 && t.returned == .cycles 4) = true := by decide

/-- Vector V95 (R306). -/
theorem test_bcs_pc_wraps : shows (step (cpu 0x00 0x00 0x00 0xFD 0x25 0xFFF0 [(0xFFF0, 0xB0), (0xFFF1, 0x7F)]))
    (fun t => t.p == 0x25 && t.pc == 0x0071 && t.returned == .cycles 4) = true := by decide

/-- Vector V96 (R307). -/
theorem test_bne_backwards : shows (step (cpu 0x00 0x00 0x00 0xFD 0x24 0x8006 [(0x8006, 0xD0), (0x8007, 0xFA)]))
    (fun t => t.p == 0x24 && t.pc == 0x8002 && t.returned == .cycles 3) = true := by decide

/-- Vector V97 (R308). -/
theorem test_beq_taken : shows (step (cpu 0x00 0x00 0x00 0xFD 0x26 0x8000 [(0x8000, 0xF0), (0x8001, 0x00)]))
    (fun t => t.p == 0x26 && t.pc == 0x8002 && t.returned == .cycles 3) = true := by decide

/-- Vector V98 (R308). -/
theorem test_beq_not_taken : shows (step (cpu 0x00 0x00 0x00 0xFD 0x24 0x8000 [(0x8000, 0xF0), (0x8001, 0x00)]))
    (fun t => t.p == 0x24 && t.pc == 0x8002 && t.returned == .cycles 2) = true := by decide

/-- Vector V100 (R310). -/
theorem test_clc : shows (step (cpu 0x00 0x00 0x00 0xFD 0xFF 0x8000 [(0x8000, 0x18)]))
    (fun t => t.p == 0xFE && t.pc == 0x8001 && t.returned == .cycles 2) = true := by decide

/-- Vector V101 (R311). -/
theorem test_sec : shows (step (cpu 0x00 0x00 0x00 0xFD 0x20 0x8000 [(0x8000, 0x38)]))
    (fun t => t.p == 0x21 && t.pc == 0x8001 && t.returned == .cycles 2) = true := by decide

/-- Vector V102 (R312). -/
theorem test_cli : shows (step (cpu 0x00 0x00 0x00 0xFD 0x24 0x8000 [(0x8000, 0x58)]))
    (fun t => t.p == 0x20 && t.pc == 0x8001 && t.returned == .cycles 2) = true := by decide

/-- Vector V103 (R313). -/
theorem test_sei : shows (step (cpu 0x00 0x00 0x00 0xFD 0x20 0x8000 [(0x8000, 0x78)]))
    (fun t => t.p == 0x24 && t.pc == 0x8001 && t.returned == .cycles 2) = true := by decide

/-- Vector V104 (R314). -/
theorem test_clv : shows (step (cpu 0x00 0x00 0x00 0xFD 0x64 0x8000 [(0x8000, 0xB8)]))
    (fun t => t.p == 0x24 && t.pc == 0x8001 && t.returned == .cycles 2) = true := by decide

/-- Vector V105 (R315). -/
theorem test_cld : shows (step (cpu 0x00 0x00 0x00 0xFD 0x2C 0x8000 [(0x8000, 0xD8)]))
    (fun t => t.p == 0x24 && t.pc == 0x8001 && t.returned == .cycles 2) = true := by decide

/-- Vector V106 (R316). -/
theorem test_sed : shows (step (cpu 0x00 0x00 0x00 0xFD 0x24 0x8000 [(0x8000, 0xF8)]))
    (fun t => t.p == 0x2C && t.pc == 0x8001 && t.returned == .cycles 2) = true := by decide

/-- Vector V107 (R317). -/
theorem test_nop_pc_wraps : shows (step (cpu 0x00 0x00 0x00 0xFD 0x24 0xFFFF [(0xFFFF, 0xEA)]))
    (fun t => t.p == 0x24 && t.pc == 0x0000 && t.returned == .cycles 2) = true := by decide

/-- Vector V108 (R318). -/
theorem test_ill_halts : shows (step (cpu 0x00 0x00 0x00 0xFD 0x24 0x8000 [(0x8000, 0x02)]))
    (fun t => t.p == 0x24 && t.pc == 0x8000 && t.halted && t.returned == .fault (.illegalOpcode 0x02 0x8000)) = true := by decide

/-- Vector V110 (R131). -/
theorem test_fetch_wraps : shows (step (cpu 0x00 0x00 0x00 0xFD 0x24 0xFFFE [(0xFFFF, 0x00), (0x0000, 0x02), (0x0200, 0x77), (0xFFFE, 0xAD)]))
    (fun t => t.a == 0x77 && t.p == 0x24 && t.pc == 0x0001 && t.returned == .cycles 4) = true := by decide

/-- Vector V120 (R338, R340). -/
theorem test_irq_taken : shows (step ({ cpu 0x00 0x00 0x00 0xFD 0xA1 0x8000 [(0xFFFE, 0x00), (0xFFFF, 0x90), (0x8000, 0xEA)] with nmiPending := false, irqPending := true, irqInhibit := false }))
    (fun t => t.sp == 0xFA && t.p == 0xA5 && t.pc == 0x9000 && t.stored 0x01FD == 0x80 && t.stored 0x01FC == 0x00 && t.stored 0x01FB == 0xA1 && t.nmiPending == false && t.irqPending == false && t.returned == .cycles 7) = true := by decide

/-- Vector V121 (R337). -/
theorem test_irq_masked : shows (step ({ cpu 0x00 0x00 0x00 0xFD 0x24 0x8000 [(0xFFFE, 0x00), (0xFFFF, 0x90), (0x8000, 0xEA)] with nmiPending := false, irqPending := true, irqInhibit := true }))
    (fun t => t.p == 0x24 && t.pc == 0x8001 && t.nmiPending == false && t.irqPending == true && t.returned == .cycles 2) = true := by decide

/-- Vector V122 (R339, R340). -/
theorem test_nmi_taken : shows (step ({ cpu 0x00 0x00 0x00 0xFD 0x24 0x8000 [(0xFFFA, 0x00), (0xFFFB, 0xA0), (0x8000, 0xEA)] with nmiPending := true, irqPending := false, irqInhibit := true }))
    (fun t => t.sp == 0xFA && t.p == 0x24 && t.pc == 0xA000 && t.stored 0x01FD == 0x80 && t.stored 0x01FC == 0x00 && t.stored 0x01FB == 0x24 && t.nmiPending == false && t.irqPending == false && t.returned == .cycles 7) = true := by decide

/-- Vector V123 (R342). -/
theorem test_nmi_before_irq : shows (step ({ cpu 0x00 0x00 0x00 0xFD 0x20 0x8000 [(0xFFFA, 0x00), (0xFFFB, 0xA0), (0xFFFE, 0x00), (0xFFFF, 0x90), (0x8000, 0xEA)] with nmiPending := true, irqPending := true, irqInhibit := false }))
    (fun t => t.sp == 0xFA && t.p == 0x24 && t.pc == 0xA000 && t.stored 0x01FD == 0x80 && t.stored 0x01FC == 0x00 && t.stored 0x01FB == 0x20 && t.nmiPending == false && t.irqPending == true && t.returned == .cycles 7) = true := by decide

/-- The fault a result carries, if any. -/
def faultOf (r : Result) : Option Fault :=
  match r with
  | .next _ => none
  | .fault f => some f
  | .refused _ => none

/-- Vector V108, second step (R331): a halted core faults. -/
theorem test_halted_faults : faultOf (step { small with halted := true }) = some (.halted 0x8000) := by decide

/-! ### The address map at the edges of its windows (R81, R83, R84) -/

theorem test_route_edges :
    route 0x1FFF = (.ram, 0x7FF) ∧ route 0x2000 = (.ppu, 0) ∧ route 0x3FFF = (.ppu, 7) ∧ route 0x4000 = (.apu, 0) ∧
      route 0x4017 = (.apu, 0x17) ∧ route 0x4018 = (.test, 0) ∧ route 0x401F = (.test, 7) ∧
      route 0x4020 = (.cart, 0) ∧ route 0xFFFF = (.cart, 0xBFDF) := by decide

/-- A write of the byte an unlisted cell reads as unlists the cell, so equal memories are equal data. -/
theorem test_write_blank_unlists :
    ((small.memWrite 0x0800 0x5A).memWrite 0x0000 0x00).mem = small.mem := by decide

/-! ### Witnesses: for every obligation with hypotheses, values that meet them -/

/-- DecodeAfterEncode: a documented and an undocumented well-formed instruction. -/
theorem test_witness_decode_after_encode :
    (Instr.jmpIndirect 0xFFFF).wellFormed = true ∧ (Instr.ill 0x02).wellFormed = true := by decide

/-- EncodeAfterDecode, with bytes left over. -/
theorem test_witness_encode_after_decode : decode [0x6C, 0xFF, 0x02, 0x77] = .ok (.jmpIndirect 0x02FF, [0x77]) := by
  decide

/-- EveryOpcodeDecodes: both sides of the list of undocumented values, at its ends. -/
theorem test_witness_every_opcode :
    (0x02 : Byte) ∈ undocumentedOpcodes ∧ (0xFF : Byte) ∈ undocumentedOpcodes ∧
      (0x00 : Byte) ∉ undocumentedOpcodes ∧ (0xFE : Byte) ∉ undocumentedOpcodes := by decide

/-- EncodedLengthByOpcode: BRK, and one mode of each length; and an opcode with no entry. -/
theorem test_witness_encoded_length :
    (entry (Instr.brk 0xEA).opcode = some ⟨.brk, .implied, 7, false⟩ ∧ (Instr.brk 0xEA).wellFormed = true) ∧
      (entry Instr.aslAccumulator.opcode = some ⟨.asl, .accumulator, 2, false⟩ ∧
        Instr.aslAccumulator.wellFormed = true) ∧
      (entry (Instr.bne 0xFA).opcode = some ⟨.bne, .relative, 2, false⟩ ∧ (Instr.bne 0xFA).wellFormed = true) ∧
      (entry (Instr.jsr 0x9000).opcode = some ⟨.jsr, .absolute, 6, false⟩ ∧ (Instr.jsr 0x9000).wellFormed = true) ∧
      entry 0x02 = none := by decide

/-- StepRunsDecodedInstruction: LDA Absolute at the top of the address space, IRQ pending but masked. -/
theorem test_witness_step_runs :
    let s := { cpu 0 0 0 0xFD 0x24 0xFFFF [(0xFFFF, 0xAD), (0x0000, 0x34), (0x0001, 0x12)] with irqPending := true }
    s.halted = false ∧ s.nmiPending = false ∧ (s.irqPending && !s.irqInhibit) = false ∧
      decode [s.memRead .opcode s.pc, s.memRead .operandLo (s.pc + 1), s.memRead .operandHi (s.pc + 2)] =
        .ok (.ldaAbsolute 0x1234, []) := by decide

/-- A core at 0x8000 whose next opcode is `op`. -/
def at8000 (op : Byte) : State := cpu 0x80 0x01 0x02 0xFD 0x24 0x8000 [(0x8000, op)]

/-- HaltedLatch: a halted core; and a step that fetches an undocumented opcode and leaves a halted core. -/
theorem test_witness_halted_latch :
    ({ small with halted := true } : State).halted = true ∧
      (at8000 0x02).poll = .instruction ∧ fetchInstr (at8000 0x02) = .ill 0x02 ∧
      shows (step (at8000 0x02)) (fun t => t.halted) = true := by decide

/-- A core with NMI pending. -/
def nmiState : State := { small with nmiPending := true }

/-- A core with IRQ pending and not masked. -/
def irqState : State := { small 0x20 with irqPending := true }

/-- InterruptsAreTaken, both clauses. -/
theorem test_witness_interrupts :
    (nmiState.mem.wf = true ∧ nmiState.halted = false ∧ nmiState.nmiPending = true) ∧
      (irqState.mem.wf = true ∧ irqState.halted = false ∧ irqState.nmiPending = false ∧
        irqState.irqPending = true ∧ irqState.irqInhibit = false) := by decide

/-- IrqInhibitFollowsI: CLI, SEI and PLP, another instruction, and the two interrupts. -/
theorem test_witness_irq_inhibit :
    (Instr.cli.mnemonic = some .cli ∧ Instr.cli.wellFormed = true ∧ shows (exec .cli small) (fun _ => true) = true) ∧
      (Instr.sei.mnemonic = some .sei ∧ Instr.sei.wellFormed = true ∧ shows (exec .sei small) (fun _ => true) = true) ∧
      (Instr.plp.mnemonic = some .plp ∧ Instr.plp.wellFormed = true ∧ shows (exec .plp small) (fun _ => true) = true) ∧
      (Instr.rti.mnemonic = some .rti ∧ Instr.rti.wellFormed = true ∧ shows (exec .rti small) (fun _ => true) = true) ∧
      nmiState.poll = .nmi ∧ shows (step nmiState) (fun _ => true) = true ∧
      irqState.poll = .irq ∧ shows (step irqState) (fun _ => true) = true := by decide

/-- ReadAfterWrite: each window at its edges, an alias and a stranger. -/
theorem test_witness_read_after_write :
    small.bus = .passive ∧ small.mem.wf = true ∧
      (route 0x07FF = route 0x1FFF ∧ (0x1FFF : Word) < 0x2000) ∧
      (route 0x2007 = route 0x3FFF ∧ (0x2000 : Word) ≤ 0x3FFF ∧ (0x3FFF : Word) < 0x4000) ∧
      (route 0x4000 ≠ route 0x3FFF ∧ (0x4000 : Word) ≤ 0x4000) := by decide

/-- A core on a platform where a collaborator answers at the PPU and APU windows. -/
def attachedState : State := { small with bus := .attached [⟨0x2000, 0x2007⟩, ⟨0x4000, 0xFFFF⟩] }

/-- DeviceAccessesAreDraws: device addresses at both ends of D's reach, an address outside D, one below 0x2000. -/
theorem test_witness_device_accesses :
    attachedState.isDevice 0x2000 = true ∧ attachedState.isDevice 0xFFFF = true ∧
      attachedState.isDevice 0x3FFF = false ∧ (0x1FFF : Word) < 0x2000 ∧ small.bus = .passive ∧
      attachedState.bus = .attached [⟨0x2000, 0x2007⟩, ⟨0x4000, 0xFFFF⟩] := by decide

/-- WordReadIsLittleEndian: the passive platform, canonical memory. -/
theorem test_witness_word_read : State.reset.bus = .passive ∧ State.reset.mem.wf = true := by decide

/-- StepKeepsInvariant: a state that meets the invariant and steps to a next state. -/
theorem test_witness_step_keeps_invariant : small.Inv ∧ ∃ t, step small = .next t :=
  ⟨⟨by decide, by decide, by decide, fun n h => by obtain rfl := Return.cycles.inj h; decide, fun _ h => nomatch h⟩,
    _, rfl⟩

/-- StepLeavesPlatformAndBreakFlag: a step by NMI, by IRQ and by an instruction. -/
theorem test_witness_step_leaves :
    (nmiState.poll = .nmi ∧ ∃ t, step nmiState = .next t) ∧ (irqState.poll = .irq ∧ ∃ t, step irqState = .next t) ∧
      (small.poll = .instruction ∧ ∃ t, step small = .next t) :=
  ⟨⟨by decide, _, rfl⟩, ⟨by decide, _, rfl⟩, ⟨by decide, _, rfl⟩⟩

/-- OnlyTheirWritersWriteRegisters: an instruction that changes A, one of the accumulator form, and one that changes
each of X, Y, SP and memory. -/
theorem test_witness_only_writers :
    shows (exec (.ldaImmediate 0x11) small) (fun t => t.a != small.a) = true ∧
      shows (exec .aslAccumulator small) (fun t => t.a != small.a) = true ∧
      Instr.aslAccumulator.mnemonic ∈ [some .asl, some .lsr, some .rol, some .ror] ∧
      shows (exec .tax small) (fun t => t.x != small.x) = true ∧
      shows (exec .tay small) (fun t => t.y != small.y) = true ∧
      shows (exec .txs small) (fun t => t.sp != small.sp) = true ∧
      shows (exec .pha small) (fun t => t.mem != small.mem) = true := by decide

/-- IndirectWrapsInItsPage: a pointer that does not end in 0xFF. -/
theorem test_witness_indirect : (0x02FE : Word).toNat % 256 ≠ 255 := by decide

/-- OperandValues: a form that has an address. -/
theorem test_witness_operand_values : getAddress (.absoluteX 0xFFFF) small = .ok ⟨0x0000, true⟩ := by decide

/-- LoadsSetRegisterAndZN, AdcAddsWithCarry, SbcSubtractsWithBorrow, LogicIntoA, BitTestsMemory,
ComparisonsWriteFlagsOnly: an encoding of each list of forms. -/
theorem test_witness_forms_read :
    (∃ f, f ∈ ldaForms 0x80 0xFF 0xFFFF) ∧ (∃ f, f ∈ ldxForms 0x80 0xFF 0xFFFF) ∧
      (∃ f, f ∈ ldyForms 0x80 0xFF 0xFFFF) ∧ (∃ f, f ∈ adcForms 0x80 0xFF 0xFFFF) ∧
      (∃ f, f ∈ sbcForms 0x80 0xFF 0xFFFF) ∧ (∃ f, f ∈ andForms 0x80 0xFF 0xFFFF) ∧
      (∃ f, f ∈ oraForms 0x80 0xFF 0xFFFF) ∧ (∃ f, f ∈ eorForms 0x80 0xFF 0xFFFF) ∧
      (∃ f, f ∈ bitForms 0xFF 0xFFFF) ∧ (∃ f, f ∈ cmpForms 0x80 0xFF 0xFFFF) ∧
      (∃ f, f ∈ cpxForms 0x80 0xFF 0xFFFF) ∧ (∃ f, f ∈ cpyForms 0x80 0xFF 0xFFFF) :=
  ⟨⟨_, .head _⟩, ⟨_, .head _⟩, ⟨_, .head _⟩, ⟨_, .head _⟩, ⟨_, .head _⟩, ⟨_, .head _⟩, ⟨_, .head _⟩, ⟨_, .head _⟩,
    ⟨_, .head _⟩, ⟨_, .head _⟩, ⟨_, .head _⟩, ⟨_, .head _⟩⟩

/-- StoresWriteTheEffectiveAddress, ShiftsMoveOneBit, RotatesGoThroughCarry, MemoryStepsByOne: canonical memory and
an encoding of each list of forms, the accumulator form and a memory form of a shift. -/
theorem test_witness_forms_write :
    small.mem.wf = true ∧ (∃ f, f ∈ staForms 0xFF 0xFFFF) ∧ (∃ f, f ∈ stxForms 0xFF 0xFFFF) ∧
      (∃ f, f ∈ styForms 0xFF 0xFFFF) ∧ (∃ f, f ∈ aslForms 0xFF 0xFFFF ∧ f.operand = .accumulator) ∧
      (∃ f, f ∈ aslForms 0xFF 0xFFFF ∧ f.operand = .zeroPage 0xFF) ∧ (∃ f, f ∈ lsrForms 0xFF 0xFFFF) ∧
      (∃ f, f ∈ rolForms 0xFF 0xFFFF) ∧ (∃ f, f ∈ rorForms 0xFF 0xFFFF) ∧ (∃ f, f ∈ incForms 0xFF 0xFFFF) ∧
      (∃ f, f ∈ decForms 0xFF 0xFFFF) :=
  ⟨by decide, ⟨_, .head _⟩, ⟨_, .head _⟩, ⟨_, .head _⟩, ⟨_, .tail _ (.head _), rfl⟩, ⟨_, .head _, rfl⟩, ⟨_, .head _⟩,
    ⟨_, .head _⟩, ⟨_, .head _⟩, ⟨_, .head _⟩, ⟨_, .head _⟩⟩

/-- JmpSetsPC: both forms. -/
theorem test_witness_jmp :
    (∃ f, f ∈ jmpForms 0x1234 0x02FF ∧ f.operand = .absolute 0x1234) ∧
      (∃ f, f ∈ jmpForms 0x1234 0x02FF ∧ f.operand = .indirect 0x02FF) :=
  ⟨⟨_, .head _, rfl⟩, ⟨_, .tail _ (.head _), rfl⟩⟩

/-- PushesWriteTheStack, JsrPushesItsLastByte, BrkEntersTheHandler, ResetCallEffect: canonical memory, SP at 0x00 so
that the stack wraps; and a byte outside the three of reset(). -/
theorem test_witness_stack_writes :
    ({ small with sp := 0x00 } : State).mem.wf = true ∧
      ∀ k < 3, cellKey 0x0101 ≠ cellKey (BitVec.ofNat 16 (0x0100 + ((0x00 : Byte).toNat + 256 - k) % 256)) := by decide

/-- BranchesAddTheOffset: each branch, taken and not taken. -/
theorem test_witness_branches :
    (branchForms 0x7F (small 0x20)).map (fun c => c.2) = [true, false, true, false, true, false, true, false] ∧
      (branchForms 0x7F (small 0xE3)).map (fun c => c.2) = [false, true, false, true, false, true, false, true] := by
  decide

/-- CliSeiMaskLate: CLI with I = 1, and SEI with I = 0 and IRQ pending. -/
theorem test_witness_cli_sei :
    (shows (exec .cli small) (fun _ => true) = true ∧ small.flag .I = true ∧ small.halted = false ∧
        small.nmiPending = false) ∧
      (shows (exec .sei irqState) (fun _ => true) = true ∧ irqState.flag .I = false ∧ irqState.halted = false ∧
        irqState.nmiPending = false ∧ irqState.irqPending = true) := by decide

/-- IllHaltsTheCore: an undocumented opcode and the state its execution leaves. -/
theorem test_witness_ill : (0x02 : Byte) ∈ undocumentedOpcodes ∧ ∃ t, exec (.ill 0x02) small = .next t :=
  ⟨by decide, _, rfl⟩

/-- RtsUndoesJsr: the state JSR leaves is itself one at which its SP and memory are found. -/
theorem test_witness_rts_undoes_jsr :
    small.mem.wf = true ∧ ∃ u t : State, exec (.jsr 0x9000) small = .next u ∧ t.sp = u.sp ∧ t.mem = u.mem ∧ t.a ≠ u.a :=
  ⟨by decide, _, { small with sp := 0xFB, a := 0x11, mem := [(0x1FC, 0x02), (0x1FD, 0x80)] }, rfl, by decide,
    by decide, by decide⟩

/-- RtiUndoesAnInterrupt: a state with the SP and memory an interrupt sequence left, and another A. -/
theorem test_witness_rti_undoes_interrupt :
    small.mem.wf = true ∧ ∃ t : State, t.sp = (interruptSequence 0xFFFE small).sp ∧
      t.mem = (interruptSequence 0xFFFE small).mem ∧ t.a ≠ small.a :=
  ⟨by decide, { small with sp := 0xFA, a := 0x11, mem := [(0x1FB, 0x24), (0x1FD, 0x80)] }, by decide, by decide,
    by decide⟩

/-- ResetStateIsPowerOnThenReset: a cell that is none of the three stack bytes. -/
theorem test_witness_reset_state : cellKey 0x01FD ≠ 0x0100 ∧ cellKey 0x01FD ≠ 0x01FE ∧ cellKey 0x01FD ≠ 0x01FF := by
  decide

end Sys2Proof.Tests
end

section

namespace Sys2Proof.Machine

/-! ### How an instruction ends its step -/

/-- The result of an instruction of opcode `op` that completes and is none of CLI, SEI and PLP: the next state is
some state `u` closed by `finish`, which sets `irq_inhibit` to the I of `u` (R52). -/
def CompletesAs (op : Byte) (r : Result) : Prop := ∃ u crossed extra, r = .next (State.finish u op crossed extra)

theorem CompletesAs.irqInhibit_eq {op : Byte} {r : Result} {t : State} (h : CompletesAs op r) (ht : r = .next t) :
    t.irqInhibit = t.flag .I := by
  obtain ⟨u, crossed, extra, hr⟩ := h
  obtain rfl : u.finish op crossed extra = t := Host.Outcome.next.inj (hr.symm.trans ht)
  simp [State.flag]

theorem branch_completes (op off : Byte) (cond : Bool) (s : State) : CompletesAs op (branch op off cond s) := by
  cases cond with
  | false => exact ⟨_, _, _, rfl⟩
  | true => exact ⟨_, _, _, rfl⟩

/-! ### Which instructions mask late -/

/-- CLI, SEI and PLP, after which `irq_inhibit` takes the I from before the instruction (R52, R380). -/
def masksLate (i : Instr) : Bool :=
  match i with
  | .cli | .sei | .plp => true
  | _ => false

/-- An opcode of R107's list has no table entry, so an `ill` instruction has no mnemonic. -/
theorem ill_mnemonic {op : Byte} (h : isUndocumented op = true) : (Instr.ill op).mnemonic = none := by
  have hall : undocumentedOpcodes.all (fun op => (entry op).isNone) = true := by decide +kernel
  have hmem : op ∈ undocumentedOpcodes := List.contains_iff_mem.mp h
  have hnone : entry op = none := Option.isNone_iff_eq_none.mp (List.all_eq_true.mp hall op hmem)
  exact congrArg (Option.map Entry.mnemonic) hnone

theorem masksLate_of_mnemonic {i : Instr} {m : Mnemonic} (hm : i.mnemonic = some m) (hwf : i.wellFormed = true) :
    masksLate i = decide (m = .cli ∨ m = .sei ∨ m = .plp) := by
  cases i with
  | ill op => rw [ill_mnemonic hwf] at hm; contradiction
  | _ => obtain rfl := Option.some.inj hm; rfl

/-- CLI, SEI and PLP complete with the I from before the instruction in `irq_inhibit`. -/
theorem exec_masksLate {i : Instr} (s : State) (h : masksLate i = true) :
    ∃ u : State, exec i s = .next (u.finishDelayed i.opcode (s.flag .I)) := by
  cases i with
  | cli | sei | plp => exact ⟨_, rfl⟩
  | _ => contradiction

/-- Every other documented instruction completes, whatever the state. Only a branch has to look at the state to know
how it ends; any other arm of `exec` evaluates to `finish`, since the resolver has an address or a value for each form
that the table pairs with a mnemonic (R332). -/
theorem exec_completes {i : Instr} (s : State) (hlate : masksLate i = false) (hdoc : ∀ op, i ≠ .ill op) :
    CompletesAs i.opcode (exec i s) := by
  cases i with
  | cli | sei | plp => contradiction
  | ill op => exact absurd rfl (hdoc op)
  | bpl off | bmi off | bvc off | bvs off | bcc off | bcs off | bne off | beq off => exact branch_completes _ off _ s
  | _ => exact ⟨_, _, _, rfl⟩

/-! ### A step that takes an interrupt -/

theorem step_of_poll_nmi {s : State} (h : s.poll = .nmi) : step s = .next (takeNmi s) := by simp [step, h]

theorem step_of_poll_irq {s : State} (h : s.poll = .irq) : step s = .next (takeIrq s) := by simp [step, h]

/-! ### irq_inhibit (R52) -/

/-- The latch an instruction leaves: the old I after CLI, SEI and PLP, the new I after any other. -/
theorem exec_irqInhibit {i : Instr} {s t : State} {m : Mnemonic} (hm : i.mnemonic = some m)
    (ht : exec i s = .next t) (hwf : i.wellFormed = true) :
    t.irqInhibit = if m = .cli ∨ m = .sei ∨ m = .plp then s.flag .I else t.flag .I := by
  have hmask := masksLate_of_mnemonic hm hwf
  cases hlate : masksLate i with
  | true =>
    obtain ⟨u, hu⟩ := exec_masksLate s hlate
    obtain rfl := Host.Outcome.next.inj (hu.symm.trans ht)
    rw [if_pos (of_decide_eq_true (hmask.symm.trans hlate)), State.finishDelayed_irqInhibit]
  | false =>
    have hdoc : ∀ op, i ≠ .ill op := by
      rintro op rfl
      rw [ill_mnemonic hwf] at hm
      contradiction
    rw [if_neg (of_decide_eq_false (hmask.symm.trans hlate))]
    exact (exec_completes s hlate hdoc).irqInhibit_eq ht

/-- A step that takes an interrupt leaves the latch set. -/
theorem step_interrupt_irqInhibit {s t : State} (hp : s.poll = .nmi ∨ s.poll = .irq) (ht : step s = .next t) :
    t.irqInhibit = true := by
  rcases hp with hp | hp
  · obtain rfl := Host.Outcome.next.inj ((step_of_poll_nmi hp).symm.trans ht)
    exact takeNmi_irqInhibit s
  · obtain rfl := Host.Outcome.next.inj ((step_of_poll_irq hp).symm.trans ht)
    exact takeIrq_irqInhibit s

/-- Settles O9: every documented instruction completes, by `finish` or, for CLI, SEI and PLP, by `finishDelayed`;
the interrupt sequences, `reset()` and power-on set the latch. -/
theorem irqInhibitFollowsI : Obligations.IrqInhibitFollowsI := by
  unfold Obligations.IrqInhibitFollowsI
  exact ⟨fun _ _ _ _ hm ht hwf => exec_irqInhibit hm ht hwf, fun _ _ hp ht => step_interrupt_irqInhibit hp ht,
    resetCall_irqInhibit, fun _ _ => rfl⟩

end Sys2Proof.Machine
end

section
/-! PROOFS of O10, O11 and O13 (20_memory.md): the address map, read after write, and word reads. -/

namespace Sys2Proof.Machine

/-! ### Routing (R81) -/

/-- RAM's mirroring mask keeps an address modulo its 2048 backing bytes. -/
theorem and_07FF_toNat (a : Word) : (a &&& 0x07FF).toNat = a.toNat % 0x800 := by
  rw [BitVec.toNat_and]
  exact Nat.and_two_pow_sub_one_eq_mod a.toNat 11

/-- The PPU bank's mirroring mask keeps an address modulo its 8 backing bytes. -/
theorem and_0007_toNat (a : Word) : (a &&& 0x0007).toNat = a.toNat % 8 := by
  rw [BitVec.toNat_and]
  exact Nat.and_two_pow_sub_one_eq_mod a.toNat 3

/-- `route` in the terms of R81: address bounds, masks and offsets from a region's first address. -/
theorem route_eq_masks (a : Word) : route a =
    if a < 0x2000 then (.ram, (a &&& 0x07FF).toNat)
    else if a < 0x4000 then (.ppu, (a &&& 0x0007).toNat)
    else if a ≤ 0x4017 then (.apu, (a - 0x4000).toNat)
    else if a ≤ 0x401F then (.test, (a - 0x4018).toNat)
    else (.cart, (a - 0x4020).toNat) := by
  have hram : a < 0x2000 ↔ a.toNat < 0x2000 := Iff.rfl
  have hppu : a < 0x4000 ↔ a.toNat < 0x4000 := Iff.rfl
  have hapu : a ≤ 0x4017 ↔ a.toNat < 0x4018 := Nat.lt_succ_iff.symm
  have htest : a ≤ 0x401F ↔ a.toNat < 0x4020 := Nat.lt_succ_iff.symm
  have hoffset : ∀ c : Word, ¬ a < c → (a - c).toNat = a.toNat - c.toNat :=
    fun c h => BitVec.toNat_sub_of_le (BitVec.not_lt.mp h)
  rw [and_07FF_toNat, and_0007_toNat]
  unfold route
  simp only [hram, hppu, hapu, htest]
  split_ifs with h1 h2 h3 h4
  · rfl
  · rfl
  · rw [hoffset 0x4000 h2]; rfl
  · rw [hoffset 0x4018 h3]; rfl
  · rw [hoffset 0x4020 h4]; rfl

/-- The cell an address routes to is one of its region's backing bytes. -/
theorem route_snd_lt (a : Word) : (route a).2 < regionSize (route a).1 := by
  have := a.isLt
  unfold route
  split_ifs <;> simp only [regionSize, cartSize, cartBase] <;> omega

/-- The keys of different regions do not meet, so a key determines its region and the cell there. -/
theorem eq_of_regionBase_add_eq {p q : Region × Nat} (hp : p.2 < regionSize p.1) (hq : q.2 < regionSize q.1)
    (h : regionBase p.1 + p.2 = regionBase q.1 + q.2) : p = q := by
  obtain ⟨r, j⟩ := p
  obtain ⟨r', k⟩ := q
  have hr : r = r' := by
    cases r <;> cases r' <;> simp only [regionBase, regionSize, cartBase, cartSize] at * <;> omega
  subst hr
  exact congrArg (r, ·) (Nat.add_left_cancel h)

/-- A store key names one cell: addresses share it exactly when they are aliases. -/
theorem cellKey_eq_iff_route_eq (a b : Word) : cellKey a = cellKey b ↔ route a = route b :=
  ⟨eq_of_regionBase_add_eq (route_snd_lt a) (route_snd_lt b), fun h => by unfold cellKey; rw [h]⟩

/-- Settles O10: R81's map by its windows, each cell within its region, and keys as names of cells. -/
theorem addressMap : Obligations.AddressMap := by
  unfold Obligations.AddressMap
  refine ⟨route_eq_masks, fun a => ?_, cellKey_eq_iff_route_eq⟩
  have hlt := route_snd_lt a
  revert hlt
  cases (route a).1 <;> exact id

/-! ### The aliases of an address (R81, R82) -/

/-- The aliases of a RAM address are the RAM addresses with its low eleven bits. -/
theorem route_eq_iff_of_ram {a : Word} (b : Word) (ha : a < 0x2000) :
    route b = route a ↔ b < 0x2000 ∧ a &&& 0x07FF = b &&& 0x07FF := by
  rw [← cellKey_eq_iff_route_eq, ← BitVec.toNat_inj, and_07FF_toNat, and_07FF_toNat]
  replace ha : a.toNat < 0x2000 := ha
  show _ ↔ b.toNat < 0x2000 ∧ _
  rcases cellKey_cases a with h | h | h <;> rcases cellKey_cases b with h' | h' | h' <;> omega

/-- The aliases of an address of the PPU bank are the addresses of that window with its low three bits. -/
theorem route_eq_iff_of_ppu {a : Word} (b : Word) (hlo : 0x2000 ≤ a) (hhi : a < 0x4000) :
    route b = route a ↔ 0x2000 ≤ b ∧ b < 0x4000 ∧ a &&& 0x0007 = b &&& 0x0007 := by
  rw [← cellKey_eq_iff_route_eq, ← BitVec.toNat_inj, and_0007_toNat, and_0007_toNat]
  replace hlo : 0x2000 ≤ a.toNat := hlo
  replace hhi : a.toNat < 0x4000 := hhi
  show _ ↔ 0x2000 ≤ b.toNat ∧ b.toNat < 0x4000 ∧ _
  rcases cellKey_cases a with h | h | h <;> rcases cellKey_cases b with h' | h' | h' <;> omega

/-- From 0x4000 up nothing is mirrored. -/
theorem route_eq_iff_of_unmirrored {a : Word} (b : Word) (ha : 0x4000 ≤ a) : route b = route a ↔ b = a := by
  rw [← cellKey_eq_iff_route_eq, ← BitVec.toNat_inj]
  replace ha : 0x4000 ≤ a.toNat := ha
  rcases cellKey_cases a with h | h | h <;> rcases cellKey_cases b with h' | h' | h' <;> omega

/-! ### Reads on the passive platform (R76, R82, R83) -/

theorem isDevice_of_passive {s : State} (a : Word) (hbus : s.bus = .passive) : s.isDevice a = false := by
  unfold State.isDevice
  rw [hbus]

/-- On the passive platform a read after a write gives the written byte at an alias, and elsewhere the byte it gave
before. -/
theorem memRead_memWrite_of_passive {s : State} (k : Access) (a b : Word) (v : Byte) (hbus : s.bus = .passive)
    (hwf : s.mem.wf = true) :
    (s.memWrite a v).memRead k b = if route b = route a then v else s.memRead k b := by
  have hdev := fun c => isDevice_of_passive (s := s) c hbus
  rw [State.memRead_of_not_device k ((State.memWrite_isDevice s a v b).trans (hdev b)),
    State.memRead_of_not_device k (hdev b), State.stored_memWrite a b v hwf]
  simp only [hdev a, and_true, cellKey_eq_iff_route_eq]

/-- Settles O11: the store's law for a read after a write, and the aliases window by window. -/
theorem readAfterWrite : Obligations.ReadAfterWrite := by
  unfold Obligations.ReadAfterWrite
  intro s a b v k hbus hwf
  rw [memRead_memWrite_of_passive k a b v hbus hwf]
  exact ⟨fun h => if_pos h, fun h => if_neg h, route_eq_iff_of_ram b, route_eq_iff_of_ppu b,
    route_eq_iff_of_unmirrored b⟩

/-- Neighbouring addresses are different cells, at the edges of the windows and at the wrap to 0x0000 too. -/
theorem route_add_one_ne (a : Word) : route (a + 1) ≠ route a := by
  rw [Ne, ← cellKey_eq_iff_route_eq]
  have hsucc : (a + 1).toNat = (a.toNat + 1) % 65536 := BitVec.toNat_add a 1
  rcases cellKey_cases a with h | h | h <;> rcases cellKey_cases (a + 1) with h' | h' | h' <;> omega

/-- The bytes written at an address and at the next one, read back as a word (R76). -/
theorem readWord_memWrite_memWrite_of_passive {s : State} (kl kh : Access) (a : Word) (lo hi : Byte)
    (hbus : s.bus = .passive) (hwf : s.mem.wf = true) :
    ((s.memWrite a lo).memWrite (a + 1) hi).readWord kl kh a = w16 hi lo := by
  have hread := fun k b => memRead_memWrite_of_passive k (a + 1) b hi (s := s.memWrite a lo) hbus
    (State.memWrite_wf a lo hwf)
  unfold State.readWord
  rw [hread, hread, memRead_memWrite_of_passive kl a a lo hbus hwf, if_pos rfl,
    if_neg (route_add_one_ne a).symm, if_pos rfl]

/-- Settles O13: a word read joins two port reads, and its two addresses are different cells. -/
theorem wordReadIsLittleEndian : Obligations.WordReadIsLittleEndian := by
  unfold Obligations.WordReadIsLittleEndian
  intro s a kl kh hbus hwf
  have hsucc : BitVec.ofNat 16 ((a.toNat + 1) % 65536) = a + 1 :=
    BitVec.eq_of_toNat_eq (by simp)
  rw [hsucc]
  exact ⟨w16_toNat _ _, readWord_memWrite_memWrite_of_passive kl kh a 0x34 0x12 hbus hwf⟩

end Sys2Proof.Machine
end

section
/-! PROOF of O5 (30_encoding.md): the length of an encoding, by its opcode's table entry. -/

namespace Sys2Proof

/-! ### The encoded length of a documented opcode (R109) -/

/-- Encoder and decoder agree on the length of a well-formed instruction: for a documented form both sides compute,
whatever its operand, and for `ill` it is R107's list that says the opcode takes no operand byte. -/
theorem encode_length_eq_operandCount {i : Instr} (hwf : i.wellFormed = true) :
    (encode i).length = operandCount i.opcode + 1 := by
  cases i with
  | ill op => exact Laws.EncodedLength.ill op hwf
  | _ => exact rfl

/-- The operand count of a documented opcode: its mode's, but for BRK's padding byte. -/
theorem operandCount_of_entry_eq_some {op : Byte} {e : Entry} (h : entry op = some e) :
    operandCount op = if e.mnemonic = .brk then 1 else operandBytesOfMode e.mode := by
  simp only [operandCount, h]

/-- No operand form has more than two bytes (R102). -/
theorem Operand.bytes_length_le_two (o : Operand) : o.bytes.length ≤ 2 := by
  cases o <;> simp [Operand.bytes]

/-! ### Undocumented opcodes (R107, R318) -/

theorem operandCount_of_entry_eq_none {op : Byte} (h : entry op = none) : operandCount op = 0 := by
  simp only [operandCount, h]

/-- The values without a table entry are those that `decodeBytes` gives no documented instruction: a check of the 256
values of `op`. `decode` passes zeros for operand bytes the opcode does not have. -/
theorem decodeBytes_zero_of_entry_eq_none :
    ∀ op : Byte, entry op = none → decodeBytes op 0 0 = .ill op := by decide +kernel

/-- An undocumented opcode consumes no operand byte, whatever follows it. -/
theorem decode_of_entry_eq_none {op : Byte} (rest : List Byte) (h : entry op = none) :
    decode (op :: rest) = .ok (.ill op, rest) := by
  simp only [decode, operandCount_of_entry_eq_none h, decodeBytes_zero_of_entry_eq_none op h]

/-- Settles O5: the encoder lays out the operand bytes the table's mode asks for, no form has more than two, and an
opcode with no entry has none. -/
theorem encodedLengthByOpcode : Obligations.EncodedLengthByOpcode := by
  unfold Obligations.EncodedLengthByOpcode
  refine ⟨fun i e he hwf => ?_, fun i => ?_, fun op hop => ⟨rfl, fun rest => decode_of_entry_eq_none rest hop⟩⟩
  · rw [encode_length_eq_operandCount hwf, operandCount_of_entry_eq_some he]
    split_ifs
    · rfl
    · cases e.mode <;> rfl
  · have hlen : (encode i).length = i.operand.bytes.length + 1 := rfl
    have hle := i.operand.bytes_length_le_two
    omega

end Sys2Proof
end

section
/-! PROOFS of O21 to O25 (40_fetch_decode_addressing.md): the effective address of each mode that has one. -/

namespace Sys2Proof

/-! ### Zero-page addresses and bytes within a page -/

theorem zext16_eq_ofNat (b : Byte) : zext16 b = BitVec.ofNat 16 b.toNat := (BitVec.ofNat_toNat 16 b).symm

/-- A sum of bytes, as a zero-page address: it never leaves page 0 (R140). -/
theorem zext16_add (a b : Byte) : zext16 (a + b) = BitVec.ofNat 16 ((a.toNat + b.toNat) % 256) := by
  rw [zext16_eq_ofNat, BitVec.toNat_add]

/-- A page's address: the high byte kept, the low byte cleared (R13). -/
theorem page_eq_w16 (w : Word) : page w = w16 (hiByte w) 0 :=
  calc page w
      = (hiByte w ++ loByte w) &&& (BitVec.allOnes 8 ++ 0#8) :=
        congrArg (· &&& 0xFF00) (w16_hiByte_loByte w).symm
    _ = (hiByte w &&& BitVec.allOnes 8) ++ (loByte w &&& 0#8) := BitVec.and_append
    _ = hiByte w ++ 0#8 := by rw [BitVec.and_allOnes, BitVec.and_zero]

theorem zext16_eq_w16 (b : Byte) : zext16 b = w16 0 b := BitVec.setWidth_eq_append (by decide)

/-- The address at offset `b` in the page of `w`. -/
theorem page_or_zext16 (w : Word) (b : Byte) : page w ||| zext16 b = w16 (hiByte w) b := by
  rw [page_eq_w16, zext16_eq_w16]
  calc (hiByte w ++ 0#8) ||| (0#8 ++ b)
      = (hiByte w ||| 0#8) ++ (0#8 ||| b) := BitVec.or_append
    _ = hiByte w ++ b := by rw [BitVec.or_zero, BitVec.zero_or]

/-- The successor of `w` within its own page (R143). -/
theorem succ_in_page_eq_ofNat (w : Word) :
    page w ||| zext16 (loByte w + 1) = BitVec.ofNat 16 (w.toNat / 256 * 256 + (w.toNat + 1) % 256) := by
  have hlo : (loByte w + 1).toNat = (w.toNat + 1) % 256 := by
    rw [BitVec.toNat_add, loByte_toNat]
    exact Nat.mod_add_mod w.toNat 256 1
  have := w.isLt
  apply BitVec.eq_of_toNat_eq
  rw [page_or_zext16, w16_toNat, hiByte_toNat, hlo, BitVec.toNat_ofNat]
  omega

/-- Only a word ending in 0xFF has its successor outside its page. -/
theorem succ_in_page_eq_add_one {w : Word} (h : w.toNat % 256 ≠ 255) : page w ||| zext16 (loByte w + 1) = w + 1 := by
  have hsucc : (w + 1).toNat = (w.toNat + 1) % 65536 := BitVec.toNat_add w 1
  apply BitVec.eq_of_toNat_eq
  rw [succ_in_page_eq_ofNat, hsucc, BitVec.toNat_ofNat]
  omega

end Sys2Proof

namespace Sys2Proof.Machine

/-! ### Indexing a base (R142, R145, R146) -/

theorem indexed_addr_toNat (base : Word) (i : Byte) :
    (indexed base i).addr.toNat = (base.toNat + i.toNat) % 65536 := by
  unfold indexed
  rw [BitVec.toNat_add, zext16_toNat]

theorem indexed_crossed_iff (base : Word) (i : Byte) :
    (indexed base i).crossed = true ↔ base.toNat / 256 ≠ (indexed base i).addr.toNat / 256 :=
  decide_eq_true_iff.trans (not_congr (page_eq_iff base (indexed base i).addr))

/-! ### Pointer words (R143, R144, R145) -/

/-- A pointer in the zero page is read from the store: no collaborator answers there. -/
theorem zeroPageWord_toNat (s : State) (zp : Byte) :
    (s.zeroPageWord zp).toNat =
      256 * (s.stored (BitVec.ofNat 16 ((zp.toNat + 1) % 256))).toNat +
        (s.stored (BitVec.ofNat 16 zp.toNat)).toNat := by
  have hhi : zext16 (zp + 1) = BitVec.ofNat 16 ((zp.toNat + 1) % 256) := zext16_add zp 1
  unfold State.zeroPageWord
  rw [w16_toNat, memRead_zext16, memRead_zext16, hhi, zext16_eq_ofNat]

theorem pageWord_toNat (s : State) (ptr : Word) :
    (s.pageWord ptr).toNat =
      256 * (s.memRead .pointerHi (BitVec.ofNat 16 (ptr.toNat / 256 * 256 + (ptr.toNat + 1) % 256))).toNat +
        (s.memRead .pointerLo ptr).toNat := by
  unfold State.pageWord
  rw [w16_toNat, succ_in_page_eq_ofNat]

theorem pageWord_eq_readWord (s : State) {ptr : Word} (h : ptr.toNat % 256 ≠ 255) :
    s.pageWord ptr = s.readWord .pointerLo .pointerHi ptr := by
  unfold State.pageWord State.readWord
  rw [succ_in_page_eq_add_one h]

/-! ### The modes -/

/-- Settles O21: a zero-page address is a byte, or a sum of bytes, extended to a word. -/
theorem zeroPageAddresses : Obligations.ZeroPageAddresses := by
  unfold Obligations.ZeroPageAddresses
  intro zp s
  unfold getAddress
  rw [← zext16_eq_ofNat, ← zext16_add, ← zext16_add]
  exact ⟨rfl, rfl, rfl⟩

/-- Settles O22: both indexed modes resolve by `indexed`, whose address and page-cross test are exact arithmetic. -/
theorem absoluteAddresses : Obligations.AbsoluteAddresses := by
  unfold Obligations.AbsoluteAddresses
  intro base s
  exact ⟨rfl, ⟨indexed base s.x, rfl, indexed_addr_toNat base s.x, indexed_crossed_iff base s.x⟩,
    ⟨indexed base s.y, rfl, indexed_addr_toNat base s.y, indexed_crossed_iff base s.y⟩⟩

/-- Settles O23: the target's bytes are at the pointer and at its successor within its page. -/
theorem indirectWrapsInItsPage : Obligations.IndirectWrapsInItsPage := by
  unfold Obligations.IndirectWrapsInItsPage
  intro ptr s
  exact ⟨⟨s.pageWord ptr, false⟩, rfl, rfl, pageWord_toNat s ptr, pageWord_eq_readWord s⟩

/-- Settles O24: the zero-page word at `zp + X`, the sum reduced modulo 256 before its successor is taken. -/
theorem indexedIndirectAddress : Obligations.IndexedIndirectAddress := by
  unfold Obligations.IndexedIndirectAddress
  intro zp s
  refine ⟨⟨s.zeroPageWord (zp + s.x), false⟩, rfl, rfl, ?_⟩
  have hword := zeroPageWord_toNat s (zp + s.x)
  rwa [BitVec.toNat_add, Nat.mod_add_mod] at hword

/-- Settles O25: the zero-page word at `zp`, indexed by Y. -/
theorem indirectIndexedAddress : Obligations.IndirectIndexedAddress := by
  unfold Obligations.IndirectIndexedAddress
  intro zp s
  refine ⟨indexed (s.zeroPageWord zp) s.y, rfl, _, rfl, ?_⟩
  rw [← zeroPageWord_toNat]
  exact ⟨indexed_addr_toNat _ s.y, indexed_crossed_iff _ s.y⟩

end Sys2Proof.Machine
end

section
/-! PROOFS of O27 to O30 (42_data_transfer.md): loads, stores and register transfers. -/

namespace Sys2Proof.Machine

/-! ### A form against the encoder and the opcode table -/

/-- The columns of a form are those of its instruction: the operand, the bytes of the encoder (R102), and the mode and
cycles of the opcode's table entry (R105, R110). -/
structure Form.MatchesTable (f : Form) : Prop where
  operand_eq : f.instr.operand = f.operand
  encode_eq : encode f.instr = f.bytes
  entry_eq : ∃ m, entry f.instr.opcode = some ⟨m, f.operand.mode, f.cycles, f.penalty⟩

theorem Form.MatchesTable.length_eq {f : Form} (hf : f.MatchesTable) : f.operand.length = f.bytes.length := by
  rw [← hf.encode_eq, ← hf.operand_eq]
  exact Nat.add_comm _ _

theorem Form.MatchesTable.cyclesOf_eq {f : Form} (hf : f.MatchesTable) (crossed : Bool) (extra : Nat) :
    cyclesOf f.instr.opcode crossed extra = f.cycles + (if f.penalty && crossed then 1 else 0) + extra := by
  obtain ⟨m, he⟩ := hf.entry_eq
  simp only [cyclesOf, he]

/-- An instruction that has moved PC past its bytes and changed nothing else but P, at the end of its step. -/
theorem Form.MatchesTable.finish_eq_after {f : Form} (hf : f.MatchesTable) (s : State) (p' : Byte) (crossed : Bool)
    (extra : Nat) :
    State.finish { s.advance f.operand.length with p := p' } f.instr.opcode crossed extra =
      f.after s p' crossed extra (s.draws + 1) := by
  unfold State.finish Form.after
  rw [hf.cyclesOf_eq, ← hf.length_eq]
  rfl

/-- Without `+p` in the Encoding line a page cross costs nothing. -/
theorem Form.after_of_no_penalty {f : Form} (h : f.penalty = false) (s : State) (p' : Byte) (crossed : Bool)
    (extra d : Nat) : f.after s p' crossed extra d = f.after s p' false extra d := by
  simp only [Form.after, h, Bool.false_and]

/-! ### Forms that read their operand, and forms that store a register -/

/-- The form is an encoding of an instruction that reads its operand and applies `g` to the byte. -/
structure Form.Reads (f : Form) (g : Byte → State → State) : Prop where
  table : f.MatchesTable
  exec_eq : ∀ s, exec f.instr s = withValue f.instr.opcode f.operand s g
  readable : ∀ s, ∃ v crossed, readOperand f.operand s = .ok (v, crossed)

/-- The form is an encoding of an instruction that stores the register `reg`, at no page-cross penalty. -/
structure Form.Stores (f : Form) (reg : State → Byte) : Prop where
  table : f.MatchesTable
  exec_eq : ∀ s, exec f.instr s = withStore f.instr.opcode f.operand s (reg s)
  addressed : ∀ s, ∃ ea, getAddress f.operand s = .ok ea
  no_penalty : f.penalty = false

/-! ### Loading a register with Z and N from the byte (R191) -/

/-- What a load or a transfer does with its byte: write it by `set`, then `set_zn`. -/
def loadInto (set : State → Byte → State) (v : Byte) (t : State) : State := (set t v).setZN v

/-- `set` writes a field that `set_zn` and the end of a step neither read nor write. -/
def WritesRegister (set : State → Byte → State) : Prop :=
  ∀ t v op crossed, (loadInto set v t).finish op crossed 0 = set ((t.setZN v).finish op crossed 0) v

theorem setA_writesRegister : WritesRegister State.setA := fun _ _ _ _ => rfl

theorem setX_writesRegister : WritesRegister State.setX := fun _ _ _ _ => rfl

theorem setY_writesRegister : WritesRegister State.setY := fun _ _ _ _ => rfl

section

variable {f : Form} {set : State → Byte → State} (hset : WritesRegister set)
include hset

/-- A register loaded and the step ended: P and the register are all that differs. -/
theorem finish_loadInto_eq_after (hf : f.MatchesTable) (s : State) (v : Byte) (crossed : Bool) :
    (loadInto set v (s.advance f.operand.length)).finish f.instr.opcode crossed 0 =
      set (f.after s (s.setZN v).p crossed 0 (s.draws + 1)) v := by
  rw [hset, ← hf.finish_eq_after]
  rfl

/-- What a load does, in each of its forms (R210, R211, R212). -/
theorem exec_of_reads_loadInto (hf : f.Reads (loadInto set)) (s : State) :
    encode f.instr = f.bytes ∧
    ∃ v crossed p' d, readOperand f.operand s = .ok (v, crossed) ∧ StatusAfter s.p p' (znFlags v) ∧
      exec f.instr s = .next (set (f.after s p' crossed 0 d) v) := by
  obtain ⟨v, crossed, hread⟩ := hf.readable s
  refine ⟨hf.table.encode_eq, v, crossed, _, s.draws + 1, hread, statusAfter_setZN s v, ?_⟩
  rw [hf.exec_eq, withValue_of_read hread, finish_loadInto_eq_after hset hf.table]

/-- What a transfer of the byte `v` does (R216 to R220). -/
theorem exec_of_transfer {s : State} {v : Byte} (hf : f.MatchesTable)
    (hexec : exec f.instr s = .next ((loadInto set v (s.advance f.operand.length)).finish f.instr.opcode false 0)) :
    encode f.instr = f.bytes ∧
    ∃ p' d, StatusAfter s.p p' (znFlags v) ∧ exec f.instr s = .next (set (f.after s p' false 0 d) v) :=
  ⟨hf.encode_eq, _, _, statusAfter_setZN s v, hexec.trans (by rw [finish_loadInto_eq_after hset hf])⟩

end

/-! ### Storing a register (R152) -/

/-- What a store does, in each of its forms (R213, R214, R215). -/
theorem exec_of_stores {f : Form} {reg : State → Byte} (hf : f.Stores reg) {s : State} (hwf : s.mem.wf = true) :
    encode f.instr = f.bytes ∧
    ∃ ea m d, getAddress f.operand s = .ok ea ∧ StoredAfter s m [(ea.addr, reg s)] ∧
      exec f.instr s = .next { f.after s s.p false 0 d with mem := m } := by
  obtain ⟨ea, hea⟩ := hf.addressed s
  refine ⟨hf.table.encode_eq, ea, _, s.draws + 1, hea, storedAfter_memWrite ea.addr (reg s) hwf, ?_⟩
  rw [hf.exec_eq, withStore_of_address hea, ← Form.after_of_no_penalty hf.no_penalty s s.p ea.crossed,
    ← hf.table.finish_eq_after]
  rfl

/-! ### The forms of each instruction -/

/-- R210's encodings. -/
theorem ldaForms_reads (imm zp : Byte) (addr : Word) :
    ∀ f ∈ ldaForms imm zp addr, f.Reads (loadInto State.setA) := by
  simp only [ldaForms, List.forall_mem_cons, List.not_mem_nil, false_imp_iff, implies_true, and_true]
  and_intros <;> exact ⟨⟨rfl, rfl, _, rfl⟩, fun _ => rfl, fun _ => ⟨_, _, rfl⟩⟩

/-- R211's encodings. -/
theorem ldxForms_reads (imm zp : Byte) (addr : Word) :
    ∀ f ∈ ldxForms imm zp addr, f.Reads (loadInto State.setX) := by
  simp only [ldxForms, List.forall_mem_cons, List.not_mem_nil, false_imp_iff, implies_true, and_true]
  and_intros <;> exact ⟨⟨rfl, rfl, _, rfl⟩, fun _ => rfl, fun _ => ⟨_, _, rfl⟩⟩

/-- R212's encodings. -/
theorem ldyForms_reads (imm zp : Byte) (addr : Word) :
    ∀ f ∈ ldyForms imm zp addr, f.Reads (loadInto State.setY) := by
  simp only [ldyForms, List.forall_mem_cons, List.not_mem_nil, false_imp_iff, implies_true, and_true]
  and_intros <;> exact ⟨⟨rfl, rfl, _, rfl⟩, fun _ => rfl, fun _ => ⟨_, _, rfl⟩⟩

/-- R213's encodings. -/
theorem staForms_stores (zp : Byte) (addr : Word) : ∀ f ∈ staForms zp addr, f.Stores State.a := by
  simp only [staForms, List.forall_mem_cons, List.not_mem_nil, false_imp_iff, implies_true, and_true]
  and_intros <;> exact ⟨⟨rfl, rfl, _, rfl⟩, fun _ => rfl, fun _ => ⟨_, rfl⟩, rfl⟩

/-- R214's encodings. -/
theorem stxForms_stores (zp : Byte) (addr : Word) : ∀ f ∈ stxForms zp addr, f.Stores State.x := by
  simp only [stxForms, List.forall_mem_cons, List.not_mem_nil, false_imp_iff, implies_true, and_true]
  and_intros <;> exact ⟨⟨rfl, rfl, _, rfl⟩, fun _ => rfl, fun _ => ⟨_, rfl⟩, rfl⟩

/-- R215's encodings. -/
theorem styForms_stores (zp : Byte) (addr : Word) : ∀ f ∈ styForms zp addr, f.Stores State.y := by
  simp only [styForms, List.forall_mem_cons, List.not_mem_nil, false_imp_iff, implies_true, and_true]
  and_intros <;> exact ⟨⟨rfl, rfl, _, rfl⟩, fun _ => rfl, fun _ => ⟨_, rfl⟩, rfl⟩

/-! ### The obligations -/

/-- Settles O27: every form reads its operand and loads one register with it. -/
theorem loadsSetRegisterAndZN : Obligations.LoadsSetRegisterAndZN := by
  unfold Obligations.LoadsSetRegisterAndZN
  exact ⟨fun imm zp addr s f hf => exec_of_reads_loadInto setA_writesRegister (ldaForms_reads imm zp addr f hf) s,
    fun imm zp addr s f hf => exec_of_reads_loadInto setX_writesRegister (ldxForms_reads imm zp addr f hf) s,
    fun imm zp addr s f hf => exec_of_reads_loadInto setY_writesRegister (ldyForms_reads imm zp addr f hf) s⟩

/-- Settles O28: every form writes its register through the port, once, and no form has the page-cross penalty. -/
theorem storesWriteTheEffectiveAddress : Obligations.StoresWriteTheEffectiveAddress := by
  unfold Obligations.StoresWriteTheEffectiveAddress
  exact ⟨fun zp addr _ hwf f hf => exec_of_stores (staForms_stores zp addr f hf) hwf,
    fun zp addr _ hwf f hf => exec_of_stores (stxForms_stores zp addr f hf) hwf,
    fun zp addr _ hwf f hf => exec_of_stores (styForms_stores zp addr f hf) hwf⟩

/-- Settles O29: a transfer loads its target with the byte of its source. -/
theorem transfersCopyAndSetZN : Obligations.TransfersCopyAndSetZN := by
  unfold Obligations.TransfersCopyAndSetZN
  intro s
  exact ⟨
    exec_of_transfer (f := ⟨.tax, .implied, [0xAA], 2, false⟩) (v := s.a) setX_writesRegister ⟨rfl, rfl, _, rfl⟩ rfl,
    exec_of_transfer (f := ⟨.tay, .implied, [0xA8], 2, false⟩) (v := s.a) setY_writesRegister ⟨rfl, rfl, _, rfl⟩ rfl,
    exec_of_transfer (f := ⟨.txa, .implied, [0x8A], 2, false⟩) (v := s.x) setA_writesRegister ⟨rfl, rfl, _, rfl⟩ rfl,
    exec_of_transfer (f := ⟨.tya, .implied, [0x98], 2, false⟩) (v := s.y) setA_writesRegister ⟨rfl, rfl, _, rfl⟩ rfl,
    exec_of_transfer (f := ⟨.tsx, .implied, [0xBA], 2, false⟩) (v := s.sp) setX_writesRegister ⟨rfl, rfl, _, rfl⟩ rfl⟩

/-- Settles O30: TXS leaves P as it was, so `irq_inhibit` takes the I of before. -/
theorem txsCopiesWithoutFlags : Obligations.TxsCopiesWithoutFlags := by
  unfold Obligations.TxsCopiesWithoutFlags
  exact fun s => ⟨rfl, s.draws + 1, rfl⟩

end Sys2Proof.Machine
end

section
/-! PROOFS of O31 to O34 (43_arith_logic.md): ADC, SBC, AND, ORA, EOR and BIT. -/

namespace Sys2Proof.Machine

/-! ### The alu's sum (R180) -/

theorem aluAdd_r (a b : Byte) (c : Bool) : (aluAdd a b c).r = BitVec.ofNat 8 (a.toNat + b.toNat + c.toNat) := by
  rw [← carryNat_eq]; rfl

theorem aluAdd_c (a b : Byte) (c : Bool) : (aluAdd a b c).c = decide (256 ≤ a.toNat + b.toNat + c.toNat) := by
  rw [← carryNat_eq]; rfl

/-! ### Effects on A and P -/

/-- The effect `g` of an operand byte leaves in A the byte `r` and writes the flags `w`, both computed from A, the
operand byte and the carry; it changes nothing but A and P. -/
def ComputesInA (g : Byte → State → State) (r : Byte → Byte → Bool → Byte)
    (w : Byte → Byte → Bool → Flag → Option Bool) : Prop :=
  ∀ v t, ∃ p', StatusAfter t.p p' (w t.a v (t.flag .C)) ∧ g v t = { t with a := r t.a v (t.flag .C), p := p' }

/-- What an instruction with such an effect does, in each of its forms. -/
theorem exec_of_reads_computesInA {f : Form} {g : Byte → State → State} {r : Byte → Byte → Bool → Byte}
    {w : Byte → Byte → Bool → Flag → Option Bool} (hg : ComputesInA g r w) (hf : f.Reads g) (s : State) :
    encode f.instr = f.bytes ∧
    ∃ v crossed p' d, readOperand f.operand s = .ok (v, crossed) ∧ StatusAfter s.p p' (w s.a v (s.flag .C)) ∧
      exec f.instr s = .next { f.after s p' crossed 0 d with a := r s.a v (s.flag .C) } := by
  obtain ⟨v, crossed, hread⟩ := hf.readable s
  obtain ⟨p', hstatus, heffect⟩ := hg v (s.advance f.operand.length)
  refine ⟨hf.table.encode_eq, v, crossed, p', s.draws + 1, hread, hstatus, ?_⟩
  rw [hf.exec_eq, withValue_of_read hread, heffect, ← hf.table.finish_eq_after]
  rfl

/-- R230's and R231's effect: the outputs of `alu` go to A, C, V, Z and N. -/
theorem takeSum_computesInA (alu : Byte → Byte → Bool → AluSum) :
    ComputesInA (fun v t => t.takeSum (alu t.a v (t.flag .C))) (fun a v c => (alu a v c).r)
      (fun a v c => znvcFlags (alu a v c).r (alu a v c).c (alu a v c).v) :=
  fun _ t => ⟨_, statusAfter_setCV_setZN t _ _ _, rfl⟩

/-- R232's, R233's and R234's effect: A is loaded with `op` of A and the operand. -/
theorem loadA_computesInA (op : Byte → Byte → Byte) :
    ComputesInA (fun v t => loadInto State.setA (op t.a v) t) (fun a v _ => op a v) (fun a v _ => znFlags (op a v)) :=
  fun _ t => ⟨_, statusAfter_setZN t _, rfl⟩

/-- R235's effect: Z from A and the operand, N and V from the operand's bits 7 and 6. -/
def bitTest (v : Byte) (t : State) : State :=
  ((t.setFlag .Z (decide (t.a &&& v = 0))).setFlag .N (v.getLsbD 7)).setFlag .V (v.getLsbD 6)

/-- The flags that BIT writes (R235). -/
def bitFlags (a v : Byte) (f : Flag) : Option Bool :=
  match f with
  | .Z => some (decide (a &&& v = 0))
  | .N => some (v.getLsbD 7)
  | .V => some (v.getLsbD 6)
  | .B | .D | .I | .C => none

theorem statusAfter_bitTest (v : Byte) (t : State) : StatusAfter t.p (bitTest v t).p (bitFlags t.a v) := by
  refine ⟨by simp [bitTest], fun f => ?_⟩
  cases f <;> simp [bitTest, bitFlags]

theorem bitTest_computesInA : ComputesInA bitTest (fun a _ _ => a) (fun a v _ => bitFlags a v) :=
  fun v t => ⟨_, statusAfter_bitTest v t, rfl⟩

/-! ### The forms of each instruction -/

/-- R230's encodings. -/
theorem adcForms_reads (imm zp : Byte) (addr : Word) :
    ∀ f ∈ adcForms imm zp addr, f.Reads (fun v t => t.takeSum (aluAdd t.a v (t.flag .C))) := by
  simp only [adcForms, List.forall_mem_cons, List.not_mem_nil, false_imp_iff, implies_true, and_true]
  and_intros <;> exact ⟨⟨rfl, rfl, _, rfl⟩, fun _ => rfl, fun _ => ⟨_, _, rfl⟩⟩

/-- R231's encodings. -/
theorem sbcForms_reads (imm zp : Byte) (addr : Word) :
    ∀ f ∈ sbcForms imm zp addr, f.Reads (fun v t => t.takeSum (aluSub t.a v (t.flag .C))) := by
  simp only [sbcForms, List.forall_mem_cons, List.not_mem_nil, false_imp_iff, implies_true, and_true]
  and_intros <;> exact ⟨⟨rfl, rfl, _, rfl⟩, fun _ => rfl, fun _ => ⟨_, _, rfl⟩⟩

/-- R232's encodings. -/
theorem andForms_reads (imm zp : Byte) (addr : Word) :
    ∀ f ∈ andForms imm zp addr, f.Reads (fun v t => loadInto State.setA (t.a &&& v) t) := by
  simp only [andForms, List.forall_mem_cons, List.not_mem_nil, false_imp_iff, implies_true, and_true]
  and_intros <;> exact ⟨⟨rfl, rfl, _, rfl⟩, fun _ => rfl, fun _ => ⟨_, _, rfl⟩⟩

/-- R233's encodings. -/
theorem oraForms_reads (imm zp : Byte) (addr : Word) :
    ∀ f ∈ oraForms imm zp addr, f.Reads (fun v t => loadInto State.setA (t.a ||| v) t) := by
  simp only [oraForms, List.forall_mem_cons, List.not_mem_nil, false_imp_iff, implies_true, and_true]
  and_intros <;> exact ⟨⟨rfl, rfl, _, rfl⟩, fun _ => rfl, fun _ => ⟨_, _, rfl⟩⟩

/-- R234's encodings. -/
theorem eorForms_reads (imm zp : Byte) (addr : Word) :
    ∀ f ∈ eorForms imm zp addr, f.Reads (fun v t => loadInto State.setA (t.a ^^^ v) t) := by
  simp only [eorForms, List.forall_mem_cons, List.not_mem_nil, false_imp_iff, implies_true, and_true]
  and_intros <;> exact ⟨⟨rfl, rfl, _, rfl⟩, fun _ => rfl, fun _ => ⟨_, _, rfl⟩⟩

/-- R235's encodings. -/
theorem bitForms_reads (zp : Byte) (addr : Word) : ∀ f ∈ bitForms zp addr, f.Reads bitTest := by
  simp only [bitForms, List.forall_mem_cons, List.not_mem_nil, false_imp_iff, implies_true, and_true]
  and_intros <;> exact ⟨⟨rfl, rfl, _, rfl⟩, fun _ => rfl, fun _ => ⟨_, _, rfl⟩⟩

/-! ### The obligations -/

/-- Settles O31: every form takes the sum of `alu_add`, whose outputs are the exact sum's. -/
theorem adcAddsWithCarry : Obligations.AdcAddsWithCarry := by
  unfold Obligations.AdcAddsWithCarry
  intro imm zp addr s f hf
  have hexec := exec_of_reads_computesInA (takeSum_computesInA aluAdd) (adcForms_reads imm zp addr f hf) s
  simpa only [aluAdd_r, aluAdd_c, aluAdd_v] using hexec

/-- Settles O32: every form takes the sum of `alu_sub`, whose outputs are the exact difference's. -/
theorem sbcSubtractsWithBorrow : Obligations.SbcSubtractsWithBorrow := by
  unfold Obligations.SbcSubtractsWithBorrow
  intro imm zp addr s f hf
  have hexec := exec_of_reads_computesInA (takeSum_computesInA aluSub) (sbcForms_reads imm zp addr f hf) s
  simpa only [aluSub_r, aluSub_c, aluSub_v] using hexec

/-- Settles O33: every form loads A with A and the operand combined, and `set_zn` leaves C and V. -/
theorem logicIntoA : Obligations.LogicIntoA := by
  unfold Obligations.LogicIntoA
  exact ⟨
    fun imm zp addr s f hf =>
      exec_of_reads_computesInA (loadA_computesInA (· &&& ·)) (andForms_reads imm zp addr f hf) s,
    fun imm zp addr s f hf =>
      exec_of_reads_computesInA (loadA_computesInA (· ||| ·)) (oraForms_reads imm zp addr f hf) s,
    fun imm zp addr s f hf =>
      exec_of_reads_computesInA (loadA_computesInA (· ^^^ ·)) (eorForms_reads imm zp addr f hf) s⟩

/-- Settles O34: every form is the bit test, which leaves A as it was. -/
theorem bitTestsMemory : Obligations.BitTestsMemory := by
  unfold Obligations.BitTestsMemory
  exact fun zp addr s f hf => exec_of_reads_computesInA bitTest_computesInA (bitForms_reads zp addr f hf) s

end Sys2Proof.Machine
end

section
/-! PROOFS of O35 and O36 (44_shift_rotate.md): ASL, LSR, ROL and ROR. -/

namespace Sys2Proof.Machine

/-! ### The alu's shifts and rotates as arithmetic (R185) -/

theorem getLsbD_zero_eq_decide (v : Byte) : v.getLsbD 0 = decide (v.toNat % 2 = 1) := Nat.testBit_zero v.toNat

theorem shiftLeft_one_eq_ofNat (v : Byte) : v <<< 1 = BitVec.ofNat 8 (2 * v.toNat) := by
  apply BitVec.eq_of_toNat_eq
  rw [BitVec.toNat_shiftLeft, BitVec.toNat_ofNat, Nat.shiftLeft_eq, Nat.mul_comm, pow_one]

theorem ushiftRight_one_eq_ofNat (v : Byte) : v >>> 1 = BitVec.ofNat 8 (v.toNat / 2) := by
  have := v.isLt
  apply BitVec.eq_of_toNat_eq
  rw [BitVec.toNat_ushiftRight, BitVec.toNat_ofNat, Nat.shiftRight_eq_div_pow]
  omega

theorem aluAsl_eq (v : Byte) (c : Bool) :
    aluAsl v c = (BitVec.ofNat 8 (2 * v.toNat), decide (128 ≤ v.toNat)) :=
  Prod.ext (shiftLeft_one_eq_ofNat v) (bit7_eq_decide v)

theorem aluLsr_eq (v : Byte) (c : Bool) :
    aluLsr v c = (BitVec.ofNat 8 (v.toNat / 2), decide (v.toNat % 2 = 1)) :=
  Prod.ext (ushiftRight_one_eq_ofNat v) (getLsbD_zero_eq_decide v)

/-- The carry comes in at bit 0, which the shift to the left has cleared, so "or" adds it. -/
theorem shiftLeft_one_or_carry (v : Byte) (c : Bool) :
    (v <<< 1) ||| (if c then 0x01 else 0x00) = BitVec.ofNat 8 (2 * v.toNat + c.toNat) := by
  have hcarry : (if c then 0x01 else 0x00 : Byte).toNat = c.toNat := by cases c <;> rfl
  have heven : 2 * v.toNat % 256 = 2 ^ 1 * (v.toNat % 128) := by omega
  have hc := c.toNat_lt
  apply BitVec.eq_of_toNat_eq
  rw [BitVec.toNat_or, shiftLeft_one_eq_ofNat, hcarry, BitVec.toNat_ofNat, BitVec.toNat_ofNat, heven,
    ← Nat.two_pow_add_eq_or_of_lt hc]
  omega

/-- The carry comes in at bit 7, which the shift to the right has cleared, so "or" adds it. -/
theorem carry_or_ushiftRight_one (v : Byte) (c : Bool) :
    ((if c then 0x80 else 0x00 : Nat) : Byte) ||| (v >>> 1) = BitVec.ofNat 8 (v.toNat / 2 + 128 * c.toNat) := by
  have hcarry : ((if c then 0x80 else 0x00 : Nat) : Byte).toNat = 2 ^ 7 * c.toNat := by cases c <;> rfl
  have hhalf : v.toNat / 2 < 2 ^ 7 := by have := v.isLt; omega
  have hc := c.toNat_lt
  apply BitVec.eq_of_toNat_eq
  rw [BitVec.toNat_or, hcarry, BitVec.toNat_ushiftRight, Nat.shiftRight_eq_div_pow, pow_one, BitVec.toNat_ofNat,
    ← Nat.two_pow_add_eq_or_of_lt hhalf]
  omega

theorem aluRol_eq (v : Byte) (c : Bool) :
    aluRol v c = (BitVec.ofNat 8 (2 * v.toNat + c.toNat), decide (128 ≤ v.toNat)) :=
  Prod.ext (shiftLeft_one_or_carry v c) (bit7_eq_decide v)

theorem aluRor_eq (v : Byte) (c : Bool) :
    aluRor v c = (BitVec.ofNat 8 (v.toNat / 2 + 128 * c.toNat), decide (v.toNat % 2 = 1)) :=
  Prod.ext (carry_or_ushiftRight_one v c) (getLsbD_zero_eq_decide v)

/-! ### Forms that modify their operand (R153) -/

/-- The form is an encoding of an instruction that is `rmw` with `g`, in A or at an address, at no page-cross
penalty. -/
structure Form.ReadsAndWrites (f : Form) (g : Byte → State → Byte × State) : Prop where
  table : f.MatchesTable
  exec_eq : ∀ s, exec f.instr s = withModify f.instr.opcode f.operand s g
  place : f.operand = .accumulator ∨ ∀ s, ∃ ea, getAddress f.operand s = .ok ea
  no_penalty : f.penalty = false

/-- `g` makes of an operand byte the byte `r` and writes the flags `w`, both computed from the byte and the carry; it
changes nothing but P. -/
def ComputesByte (g : Byte → State → Byte × State) (r : Byte → Bool → Byte)
    (w : Byte → Bool → Flag → Option Bool) : Prop :=
  ∀ v t, ∃ p', StatusAfter t.p p' (w v (t.flag .C)) ∧ g v t = (r v (t.flag .C), { t with p := p' })

theorem withModify_of_accumulator {op : Byte} {o : Operand} {s : State} {g : Byte → State → Byte × State}
    (h : o = .accumulator) :
    withModify op o s g =
      .next (((g s.a (s.advance o.length)).2.setA (g s.a (s.advance o.length)).1).finish op false 0) := by
  rw [h]
  exact withModify_accumulator

theorem modifies_of_accumulator {f : Form} {s : State} {r : Byte → Byte} {w : Byte → Flag → Option Bool} {p' : Byte}
    {d : Nat} (hacc : f.operand = .accumulator) (hstatus : StatusAfter s.p p' (w s.a))
    (hexec : exec f.instr s = .next { f.after s p' false 0 d with a := r s.a }) : Modifies f s r w := by
  unfold Modifies
  rw [hacc]
  exact ⟨p', d, hstatus, hexec⟩

theorem modifies_of_address {f : Form} {s : State} {r : Byte → Byte} {w : Byte → Flag → Option Bool} {ea : Resolved}
    {p' : Byte} {m : Memory} {d : Nat} (hea : getAddress f.operand s = .ok ea)
    (hstatus : StatusAfter s.p p' (w (s.memRead .data ea.addr)))
    (hstored : StoredAfter s m [(ea.addr, r (s.memRead .data ea.addr))])
    (hexec : exec f.instr s = .next { f.after s p' false 0 d with mem := m }) : Modifies f s r w := by
  unfold Modifies
  split
  next hacc =>
    rw [hacc] at hea
    contradiction
  next => exact ⟨ea, p', m, d, hea, hstatus, hstored, hexec⟩

/-- What a read-modify-write instruction does, in each of its forms. -/
theorem modifies_of_readsAndWrites {f : Form} {g : Byte → State → Byte × State} {r : Byte → Bool → Byte}
    {w : Byte → Bool → Flag → Option Bool} (hg : ComputesByte g r w) (hf : f.ReadsAndWrites g) {s : State}
    (hwf : s.mem.wf = true) :
    encode f.instr = f.bytes ∧ Modifies f s (fun v => r v (s.flag .C)) (fun v => w v (s.flag .C)) := by
  refine ⟨hf.table.encode_eq, ?_⟩
  rcases hf.place with hacc | haddr
  · obtain ⟨p', hstatus, heffect⟩ := hg s.a (s.advance f.operand.length)
    refine modifies_of_accumulator (d := s.draws + 1) hacc hstatus ?_
    rw [hf.exec_eq, withModify_of_accumulator hacc, heffect, ← hf.table.finish_eq_after]
    rfl
  · obtain ⟨ea, hea⟩ := haddr s
    obtain ⟨p', hstatus, heffect⟩ := hg (s.memRead .data ea.addr) (s.advance f.operand.length)
    refine modifies_of_address (d := s.draws + 1) hea hstatus (storedAfter_memWrite ea.addr _ hwf) ?_
    rw [hf.exec_eq, withModify_of_address hea, heffect, ← Form.after_of_no_penalty hf.no_penalty s p' ea.crossed,
      ← hf.table.finish_eq_after]
    rfl

/-- R250's to R253's computation: the byte is the result of `alu`, and C, Z and N are written from its outputs. -/
theorem shiftBy_computesByte (alu : Byte → Bool → Byte × Bool) :
    ComputesByte (shiftBy alu) (fun v c => (alu v c).1) (fun v c => zncFlags (alu v c).1 (alu v c).2) :=
  fun _ t => ⟨_, statusAfter_setC_setZN t _ _, rfl⟩

/-! ### The forms of each instruction -/

/-- R250's encodings. -/
theorem aslForms_readsAndWrites (zp : Byte) (addr : Word) :
    ∀ f ∈ aslForms zp addr, f.ReadsAndWrites (shiftBy aluAsl) := by
  simp only [aslForms, List.forall_mem_cons, List.not_mem_nil, false_imp_iff, implies_true, and_true]
  refine ⟨?_, ⟨⟨rfl, rfl, _, rfl⟩, fun _ => rfl, .inl rfl, rfl⟩, ?_, ?_, ?_⟩ <;>
    exact ⟨⟨rfl, rfl, _, rfl⟩, fun _ => rfl, .inr fun _ => ⟨_, rfl⟩, rfl⟩

/-- R251's encodings. -/
theorem lsrForms_readsAndWrites (zp : Byte) (addr : Word) :
    ∀ f ∈ lsrForms zp addr, f.ReadsAndWrites (shiftBy aluLsr) := by
  simp only [lsrForms, List.forall_mem_cons, List.not_mem_nil, false_imp_iff, implies_true, and_true]
  refine ⟨?_, ⟨⟨rfl, rfl, _, rfl⟩, fun _ => rfl, .inl rfl, rfl⟩, ?_, ?_, ?_⟩ <;>
    exact ⟨⟨rfl, rfl, _, rfl⟩, fun _ => rfl, .inr fun _ => ⟨_, rfl⟩, rfl⟩

/-- R252's encodings. -/
theorem rolForms_readsAndWrites (zp : Byte) (addr : Word) :
    ∀ f ∈ rolForms zp addr, f.ReadsAndWrites (shiftBy aluRol) := by
  simp only [rolForms, List.forall_mem_cons, List.not_mem_nil, false_imp_iff, implies_true, and_true]
  refine ⟨?_, ⟨⟨rfl, rfl, _, rfl⟩, fun _ => rfl, .inl rfl, rfl⟩, ?_, ?_, ?_⟩ <;>
    exact ⟨⟨rfl, rfl, _, rfl⟩, fun _ => rfl, .inr fun _ => ⟨_, rfl⟩, rfl⟩

/-- R253's encodings. -/
theorem rorForms_readsAndWrites (zp : Byte) (addr : Word) :
    ∀ f ∈ rorForms zp addr, f.ReadsAndWrites (shiftBy aluRor) := by
  simp only [rorForms, List.forall_mem_cons, List.not_mem_nil, false_imp_iff, implies_true, and_true]
  refine ⟨?_, ⟨⟨rfl, rfl, _, rfl⟩, fun _ => rfl, .inl rfl, rfl⟩, ?_, ?_, ?_⟩ <;>
    exact ⟨⟨rfl, rfl, _, rfl⟩, fun _ => rfl, .inr fun _ => ⟨_, rfl⟩, rfl⟩

/-! ### The obligations -/

/-- Settles O35: every form modifies its operand by `alu_asl` or `alu_lsr`, which double and halve it. -/
theorem shiftsMoveOneBit : Obligations.ShiftsMoveOneBit := by
  unfold Obligations.ShiftsMoveOneBit
  refine ⟨fun zp addr s hwf f hf => ?_, fun zp addr s hwf f hf => ?_⟩
  · have hasl := modifies_of_readsAndWrites (shiftBy_computesByte aluAsl) (aslForms_readsAndWrites zp addr f hf) hwf
    simpa only [aluAsl_eq] using hasl
  · have hlsr := modifies_of_readsAndWrites (shiftBy_computesByte aluLsr) (lsrForms_readsAndWrites zp addr f hf) hwf
    simpa only [aluLsr_eq] using hlsr

/-- Settles O36: every form modifies its operand by `alu_rol` or `alu_ror`, given the carry of before. -/
theorem rotatesGoThroughCarry : Obligations.RotatesGoThroughCarry := by
  unfold Obligations.RotatesGoThroughCarry
  refine ⟨fun zp addr s hwf f hf => ?_, fun zp addr s hwf f hf => ?_⟩
  · have hrol := modifies_of_readsAndWrites (shiftBy_computesByte aluRol) (rolForms_readsAndWrites zp addr f hf) hwf
    simpa only [aluRol_eq] using hrol
  · have hror := modifies_of_readsAndWrites (shiftBy_computesByte aluRor) (rorForms_readsAndWrites zp addr f hf) hwf
    simpa only [aluRor_eq] using hror

end Sys2Proof.Machine
end

section
/-! PROOF of O38 (45_compare.md): CMP, CPX and CPY. -/

namespace Sys2Proof.Machine

/-! ### The flags of a comparison (R184) -/

/-- The difference of `alu_cmp` is zero exactly when its two bytes are equal. -/
theorem aluCmp_fst_eq_zero_iff (r m : Byte) : (aluCmp r m).1 = 0 ↔ r = m := sub_eq_zero (a := r) (b := m)

theorem flagOf_Z_iff_of_statusAfter_zncFlags {p p' v : Byte} {c : Bool} (h : StatusAfter p p' (zncFlags v c)) :
    flagOf p' .Z = true ↔ v = 0 := by
  have hZ : flagOf p' .Z = decide (v = 0) := h.2 .Z
  rw [hZ, decide_eq_true_iff]

/-! ### Comparing a register with the operand (R260 to R262) -/

/-- What `compareWith` does with the operand byte, the register taken from the state it is done on. -/
def compareReg (reg : State → Byte) (v : Byte) (t : State) : State :=
  (t.setFlag .C (aluCmp (reg t) v).2).setZN (aluCmp (reg t) v).1

/-- `reg` does not look at PC, so the fetch leaves its byte as it was. -/
def FetchKeeps (reg : State → Byte) : Prop := ∀ s n, reg (State.advance s n) = reg s

/-- A comparison done and the step ended: P is all that differs. -/
theorem finish_compareReg_eq_after {f : Form} {reg : State → Byte} (hreg : FetchKeeps reg) (hf : f.MatchesTable)
    (s : State) (v : Byte) (crossed : Bool) :
    (compareReg reg v (s.advance f.operand.length)).finish f.instr.opcode crossed 0 =
      f.after s (compareReg reg v s).p crossed 0 (s.draws + 1) := by
  rw [← hf.finish_eq_after]
  unfold compareReg
  rw [hreg]
  rfl

/-- What a comparison does, in each of its forms. -/
theorem exec_of_reads_compareReg {f : Form} {reg : State → Byte} (hreg : FetchKeeps reg)
    (hf : f.Reads (compareReg reg)) (s : State) :
    encode f.instr = f.bytes ∧
    ∃ v crossed p' d, readOperand f.operand s = .ok (v, crossed) ∧
      StatusAfter s.p p' (zncFlags (BitVec.ofInt 8 ((reg s).toNat - v.toNat)) (decide (v.toNat ≤ (reg s).toNat))) ∧
      (flagOf p' .Z = true ↔ reg s = v) ∧
      exec f.instr s = .next (f.after s p' crossed 0 d) := by
  obtain ⟨v, crossed, hread⟩ := hf.readable s
  have hstatus : StatusAfter s.p (compareReg reg v s).p (zncFlags (aluCmp (reg s) v).1 (aluCmp (reg s) v).2) :=
    statusAfter_setC_setZN s _ _
  have hequal := (flagOf_Z_iff_of_statusAfter_zncFlags hstatus).trans (aluCmp_fst_eq_zero_iff (reg s) v)
  rw [aluCmp_diff] at hstatus
  refine ⟨hf.table.encode_eq, v, crossed, _, s.draws + 1, hread, hstatus, hequal, ?_⟩
  rw [hf.exec_eq, withValue_of_read hread, finish_compareReg_eq_after hreg hf.table]

/-! ### The forms of each instruction -/

/-- R260's encodings. -/
theorem cmpForms_reads (imm zp : Byte) (addr : Word) :
    ∀ f ∈ cmpForms imm zp addr, f.Reads (compareReg State.a) := by
  simp only [cmpForms, List.forall_mem_cons, List.not_mem_nil, false_imp_iff, implies_true, and_true]
  and_intros <;> exact ⟨⟨rfl, rfl, _, rfl⟩, fun _ => rfl, fun _ => ⟨_, _, rfl⟩⟩

/-- R261's encodings. -/
theorem cpxForms_reads (imm zp : Byte) (addr : Word) :
    ∀ f ∈ cpxForms imm zp addr, f.Reads (compareReg State.x) := by
  simp only [cpxForms, List.forall_mem_cons, List.not_mem_nil, false_imp_iff, implies_true, and_true]
  and_intros <;> exact ⟨⟨rfl, rfl, _, rfl⟩, fun _ => rfl, fun _ => ⟨_, _, rfl⟩⟩

/-- R262's encodings. -/
theorem cpyForms_reads (imm zp : Byte) (addr : Word) :
    ∀ f ∈ cpyForms imm zp addr, f.Reads (compareReg State.y) := by
  simp only [cpyForms, List.forall_mem_cons, List.not_mem_nil, false_imp_iff, implies_true, and_true]
  and_intros <;> exact ⟨⟨rfl, rfl, _, rfl⟩, fun _ => rfl, fun _ => ⟨_, _, rfl⟩⟩

/-! ### The obligation -/

/-- Settles O38: every form compares one register with its operand by `alu_cmp`, and the fetch leaves A, X and Y. -/
theorem comparisonsWriteFlagsOnly : Obligations.ComparisonsWriteFlagsOnly := by
  unfold Obligations.ComparisonsWriteFlagsOnly
  exact ⟨
    fun imm zp addr s f hf => exec_of_reads_compareReg (fun _ _ => rfl) (cmpForms_reads imm zp addr f hf) s,
    fun imm zp addr s f hf => exec_of_reads_compareReg (fun _ _ => rfl) (cpxForms_reads imm zp addr f hf) s,
    fun imm zp addr s f hf => exec_of_reads_compareReg (fun _ _ => rfl) (cpyForms_reads imm zp addr f hf) s⟩

end Sys2Proof.Machine
end

section
/-! PROOFS of O37 and O39 (46_inc_dec.md): INC, DEC, INX, INY, DEX and DEY. -/

namespace Sys2Proof.Machine

/-! ### The alu's steps as arithmetic (R186) -/

theorem aluInc_eq (v : Byte) : aluInc v = BitVec.ofNat 8 (v.toNat + 1) :=
  BitVec.eq_of_toNat_eq (BitVec.toNat_add v 1)

/-- One less modulo 256 is 255 more. -/
theorem aluDec_eq (v : Byte) : aluDec v = BitVec.ofNat 8 (v.toNat + 255) := by
  have hsub : (aluDec v).toNat = (255 + v.toNat) % 256 := BitVec.toNat_sub v 1
  apply BitVec.eq_of_toNat_eq
  rw [hsub, BitVec.toNat_ofNat, Nat.add_comm]

/-! ### Stepping a byte of memory -/

/-- R270's and R271's computation: the byte is `g` of the operand, and Z and N are written from it. -/
theorem stepBy_computesByte (g : Byte → Byte) :
    ComputesByte (stepBy g) (fun v _ => g v) (fun v _ => znFlags (g v)) :=
  fun _ t => ⟨_, statusAfter_setZN t _, rfl⟩

/-- R270's encodings. -/
theorem incForms_readsAndWrites (zp : Byte) (addr : Word) :
    ∀ f ∈ incForms zp addr, f.ReadsAndWrites (stepBy aluInc) := by
  simp only [incForms, List.forall_mem_cons, List.not_mem_nil, false_imp_iff, implies_true, and_true]
  and_intros <;> exact ⟨⟨rfl, rfl, _, rfl⟩, fun _ => rfl, .inr fun _ => ⟨_, rfl⟩, rfl⟩

/-- R271's encodings. -/
theorem decForms_readsAndWrites (zp : Byte) (addr : Word) :
    ∀ f ∈ decForms zp addr, f.ReadsAndWrites (stepBy aluDec) := by
  simp only [decForms, List.forall_mem_cons, List.not_mem_nil, false_imp_iff, implies_true, and_true]
  and_intros <;> exact ⟨⟨rfl, rfl, _, rfl⟩, fun _ => rfl, .inr fun _ => ⟨_, rfl⟩, rfl⟩

/-! ### The obligations -/

/-- Settles O37: every form modifies its operand by `alu_inc` or `alu_dec`, and `set_zn` leaves C and V. -/
theorem memoryStepsByOne : Obligations.MemoryStepsByOne := by
  unfold Obligations.MemoryStepsByOne
  refine ⟨fun zp addr s hwf f hf => ?_, fun zp addr s hwf f hf => ?_⟩
  · have hinc := modifies_of_readsAndWrites (stepBy_computesByte aluInc) (incForms_readsAndWrites zp addr f hf) hwf
    simpa only [aluInc_eq] using hinc
  · have hdec := modifies_of_readsAndWrites (stepBy_computesByte aluDec) (decForms_readsAndWrites zp addr f hf) hwf
    simpa only [aluDec_eq] using hdec

/-- Settles O39: each instruction loads its register with the register's own byte stepped by the alu. -/
theorem indexRegistersStepByOne : Obligations.IndexRegistersStepByOne := by
  unfold Obligations.IndexRegistersStepByOne
  intro s
  simp only [← aluInc_eq, ← aluDec_eq]
  exact ⟨
    exec_of_transfer (f := ⟨.inx, .implied, [0xE8], 2, false⟩) setX_writesRegister ⟨rfl, rfl, _, rfl⟩ rfl,
    exec_of_transfer (f := ⟨.iny, .implied, [0xC8], 2, false⟩) setY_writesRegister ⟨rfl, rfl, _, rfl⟩ rfl,
    exec_of_transfer (f := ⟨.dex, .implied, [0xCA], 2, false⟩) setX_writesRegister ⟨rfl, rfl, _, rfl⟩ rfl,
    exec_of_transfer (f := ⟨.dey, .implied, [0x88], 2, false⟩) setY_writesRegister ⟨rfl, rfl, _, rfl⟩ rfl⟩

end Sys2Proof.Machine
end

section
/-! PROOFS of O40 to O42 (47_stack.md): PHA, PHP, PLA and PLP. -/

namespace Sys2Proof.Machine

/-! ### Push and pull at the address 0x0100 + SP (R38) -/

/-- A push writes its byte at 0x0100 + SP (R150). -/
theorem storedAfter_push {s : State} (v : Byte) (hwf : s.mem.wf = true) :
    StoredAfter s (s.push v).mem [(0x0100 + zext16 s.sp, v)] := by
  rw [← stackAddr_eq]
  exact storedAfter_memWrite (stackAddr s.sp) v hwf

/-- A pull reads the store's byte at 0x0100 + SP + 1, SP + 1 modulo 256 (R151). -/
theorem top_eq_stored (s : State) : s.top = s.stored (0x0100 + zext16 (s.sp + 1)) := by
  rw [← stackAddr_eq]
  exact memRead_stackAddr s (s.sp + 1) .stack

/-! ### Instructions that push, and the end of an instruction that masks IRQ late -/

/-- What pushing the byte `v` does (R280, R281). -/
theorem exec_of_push {f : Form} {s : State} {v : Byte} (hf : f.MatchesTable) (hwf : s.mem.wf = true)
    (hexec : exec f.instr s = .next (((s.advance f.operand.length).push v).finish f.instr.opcode false 0)) :
    encode f.instr = f.bytes ∧
    ∃ m d, StoredAfter s m [(0x0100 + zext16 s.sp, v)] ∧
      exec f.instr s = .next { f.after s s.p false 0 d with sp := s.sp - 1, mem := m } := by
  refine ⟨hf.encode_eq, _, s.draws + 1, storedAfter_push v hwf, ?_⟩
  rw [hexec, ← hf.finish_eq_after]
  rfl

/-- An instruction that has moved PC past its bytes and changed nothing else but P, at the end of its step when
`irq_inhibit` takes the I from before (R52). -/
theorem Form.MatchesTable.finishDelayed_eq_after {f : Form} (hf : f.MatchesTable) (s : State) (p' : Byte)
    (before : Bool) :
    State.finishDelayed { s.advance f.operand.length with p := p' } f.instr.opcode before =
      { f.after s p' false 0 (s.draws + 1) with irqInhibit := before } := by
  rw [State.finishDelayed, hf.finish_eq_after]

/-! ### The obligations -/

/-- Settles O40: PHA and PHP each push one byte, and a push writes no P. -/
theorem pushesWriteTheStack : Obligations.PushesWriteTheStack := by
  unfold Obligations.PushesWriteTheStack
  exact fun s hwf => ⟨
    exec_of_push (f := ⟨.pha, .implied, [0x48], 3, false⟩) (v := s.a) ⟨rfl, rfl, _, rfl⟩ hwf rfl,
    exec_of_push (f := ⟨.php, .implied, [0x08], 3, false⟩) (v := softwareStatus s.p) ⟨rfl, rfl, _, rfl⟩ hwf rfl⟩

/-- Settles O41: PLA is a load of A with the top of the stack, made in the state with SP incremented. -/
theorem plaPullsA : Obligations.PlaPullsA := by
  unfold Obligations.PlaPullsA
  intro s
  rw [← top_eq_stored]
  have hload := finish_loadInto_eq_after (f := ⟨.pla, .implied, [0x68], 4, false⟩) setA_writesRegister
    ⟨rfl, rfl, _, rfl⟩ s.pulled s.top false
  exact ⟨rfl, _, s.draws + 1, statusAfter_setZN s s.top, congrArg Host.Outcome.next hload⟩

/-- Settles O42: the pulled byte gives every flag but B, and PLP ends its step with the mask of before. -/
theorem plpPullsStatusLate : Obligations.PlpPullsStatusLate := by
  unfold Obligations.PlpPullsStatusLate
  intro s
  rw [← top_eq_stored]
  have hend := Form.MatchesTable.finishDelayed_eq_after (f := ⟨.plp, .implied, [0x28], 4, false⟩)
    ⟨rfl, rfl, _, rfl⟩ s.pulled (pulledStatus s.p s.top ||| 0x20) (s.flag .I)
  exact ⟨rfl, _, s.draws + 1, statusAfter_pulledStatus s.p s.top, congrArg Host.Outcome.next hend⟩

end Sys2Proof.Machine
end

section
/-! PROOFS of O43 to O48 (48_control_flow.md): JMP, JSR, RTS, RTI, BRK and the branches. -/

namespace Sys2Proof.Machine

/-! ### The end of an instruction that loads PC -/

/-- `t` holds these values of P, PC, SP and memory, and every other field as `s` does. -/
def State.MovedTo (s t : State) (p' : Byte) (pc' : Word) (sp' : Byte) (m : Memory) : Prop :=
  (t.p = p' ∧ t.pc = pc' ∧ t.sp = sp' ∧ t.mem = m) ∧
  t.a = s.a ∧ t.x = s.x ∧ t.y = s.y ∧ t.nmiPending = s.nmiPending ∧ t.irqPending = s.irqPending ∧
  t.irqInhibit = s.irqInhibit ∧ t.halted = s.halted ∧ t.bus = s.bus ∧ t.draws = s.draws ∧ t.returned = s.returned

/-- What an instruction does that completes from such a state `t`. -/
theorem exec_of_movedTo {f : Form} (hf : f.MatchesTable) {s t : State} {p' sp' : Byte} {pc' : Word} {m : Memory}
    {extra : Nat} (hexec : exec f.instr s = .next (t.finish f.instr.opcode false extra))
    (hmoved : s.MovedTo t p' pc' sp' m) :
    exec f.instr s = .next { f.after s p' false extra (s.draws + 1) with pc := pc', sp := sp', mem := m } := by
  cases t
  obtain ⟨⟨rfl, rfl, rfl, rfl⟩, rfl, rfl, rfl, rfl, rfl, rfl, rfl, rfl, rfl, rfl⟩ := hmoved
  rw [hexec, ← hf.finish_eq_after]
  rfl

/-- JMP in a form with an address (R290). -/
theorem jmpOp_of_address {op : Byte} {o : Operand} {s : State} {ea : Resolved} (h : getAddress o s = .ok ea) :
    jmpOp op o s = .next (((s.advance o.length).setPC ea.addr).finish op false 0) := by
  simp only [jmpOp, getAddress_advance, h]

/-! ### Words on the stack (R73) -/

theorem w16_eq_ofNat (hi lo : Byte) : w16 hi lo = BitVec.ofNat 16 (256 * hi.toNat + lo.toNat) := by
  rw [← w16_toNat, BitVec.ofNat_toNat, BitVec.setWidth_eq]

/-- Two pulls read the store's bytes at 0x0100 + SP + 1 and 0x0100 + SP + 2, the low byte first. -/
theorem topWord_eq_ofNat (s : State) :
    s.topWord = BitVec.ofNat 16 (256 * (s.stored (0x0100 + zext16 (s.sp + 2))).toNat +
      (s.stored (0x0100 + zext16 (s.sp + 1))).toNat) := by
  have hsp : s.sp + 1 + 1 = s.sp + 2 := BitVec.add_assoc s.sp 1 1
  rw [State.topWord, w16_eq_ofNat, top_eq_stored, top_eq_stored, State.pulled_sp, State.pulled_stored, hsp]

/-! ### Entering a handler reads its vector from the memory of before (R340) -/

/-- From 0x2000 up no address shares a cell with the stack page. -/
theorem cellKey_ne_stackAddr {a : Word} (ha : 0x2000 ≤ a.toNat) (sp : Byte) : cellKey a ≠ cellKey (stackAddr sp) := by
  have := sp.isLt
  rw [cellKey_stackAddr]
  rcases cellKey_cases a with h | h | h <;> omega

theorem memRead_push_of_not_ram {s : State} (v : Byte) (k : Access) {a : Word} (hwf : s.mem.wf = true)
    (ha : 0x2000 ≤ a.toNat) : (s.push v).memRead k a = s.memRead k a := by
  unfold State.memRead
  rw [State.push_isDevice, State.push_draws, stored_push s v hwf, if_neg (cellKey_ne_stackAddr ha s.sp)]

/-- The three pushed bytes lie in internal RAM, so they are not read back as the vector. -/
theorem enterHandler_pc_eq_readWord {s : State} (b : Byte) {v : Word} (hwf : s.mem.wf = true)
    (hlo : 0x2000 ≤ v.toNat) (hhi : 0x2000 ≤ (v + 1).toNat) :
    (enterHandler b v s).pc = s.readWord .vectorLo .vectorHi v := by
  have hpushed : ∀ k a, 0x2000 ≤ a.toNat → ((s.pushWord s.pc).push b).memRead k a = s.memRead k a := by
    intro k a ha
    rw [memRead_push_of_not_ram b k (State.pushWord_wf s.pc hwf) ha, State.pushWord,
      memRead_push_of_not_ram _ k (State.push_wf _ hwf) ha, memRead_push_of_not_ram _ k hwf ha]
  rw [enterHandler_pc, State.readWord, State.readWord, hpushed _ _ hlo, hpushed _ _ hhi]

/-! ### Branches (R300) -/

/-- The next instruction's address plus the signed offset, modulo 65536. -/
def branchTarget (off : Byte) (s : State) : Word := s.pc + 2 + BitVec.ofInt 16 off.toInt

/-- The cycles a taken branch adds: 2 where its target leaves the page of the next instruction, and 1 elsewhere. -/
def branchExtra (off : Byte) (s : State) : Nat :=
  if (branchTarget off s).toNat / 256 = (s.pc + 2).toNat / 256 then 1 else 2

theorem branch_taken (op off : Byte) (s : State) :
    branch op off true s =
      .next (((s.advance 2).setPC (branchTarget off s)).finish op false (branchExtra off s)) := by
  unfold branchExtra
  simp only [← page_eq_iff]
  rfl

theorem branch_untaken (op off : Byte) (s : State) : branch op off false s = .next ((s.advance 2).finish op false 0) :=
  rfl

/-- The form is an encoding of a branch by `off` on `cond`. -/
structure Form.Branches (f : Form) (off : Byte) (cond : Bool) (s : State) : Prop where
  table : f.MatchesTable
  operand_eq : f.operand = .relative off
  exec_eq : exec f.instr s = branch f.instr.opcode off cond s

/-- What a branch does when its condition holds. -/
theorem exec_of_branches_taken {f : Form} {off : Byte} {s : State} (hf : f.Branches off true s) :
    exec f.instr s =
      .next { f.after s s.p false (branchExtra off s) (s.draws + 1) with pc := branchTarget off s } :=
  exec_of_movedTo hf.table (hf.exec_eq.trans (branch_taken _ off s)) (by simp [State.MovedTo, Form.after])

/-- What a branch does when its condition does not hold. -/
theorem exec_of_branches_untaken {f : Form} {off : Byte} {s : State} (hf : f.Branches off false s) :
    exec f.instr s = .next (f.after s s.p false 0 (s.draws + 1)) := by
  rw [hf.exec_eq, branch_untaken, ← hf.table.finish_eq_after, hf.operand_eq]
  rfl

/-! ### The forms -/

/-- The form is an encoding of JMP, in a mode with an address. -/
structure Form.Jumps (f : Form) : Prop where
  table : f.MatchesTable
  exec_eq : ∀ s, exec f.instr s = jmpOp f.instr.opcode f.operand s
  addressed : ∀ s, ∃ ea, getAddress f.operand s = .ok ea

/-- R290's encodings. -/
theorem jmpForms_jumps (addr ptr : Word) : ∀ f ∈ jmpForms addr ptr, f.Jumps := by
  simp only [jmpForms, List.forall_mem_cons, List.not_mem_nil, false_imp_iff, implies_true, and_true]
  and_intros <;> exact ⟨⟨rfl, rfl, _, rfl⟩, fun _ => rfl, fun _ => ⟨_, rfl⟩⟩

/-- R301's to R308's encodings. -/
theorem branchForms_branches (off : Byte) (s : State) : ∀ fc ∈ branchForms off s, fc.1.Branches off fc.2 s := by
  simp only [branchForms, List.forall_mem_cons, List.not_mem_nil, false_imp_iff, implies_true, and_true]
  and_intros <;> exact ⟨⟨rfl, rfl, _, rfl⟩, rfl, rfl⟩

/-! ### The obligations -/

/-- Settles O43: both forms resolve to an address, which is all that JMP writes. -/
theorem jmpSetsPC : Obligations.JmpSetsPC := by
  unfold Obligations.JmpSetsPC
  intro addr ptr s f hf
  have hjump := jmpForms_jumps addr ptr f hf
  obtain ⟨ea, hea⟩ := hjump.addressed s
  have hexec := (hjump.exec_eq s).trans (jmpOp_of_address hea)
  exact ⟨hjump.table.encode_eq, ea, s.draws + 1, hea,
    exec_of_movedTo hjump.table hexec (by simp [State.MovedTo, Form.after])⟩

/-- Settles O44: JSR pushes one word, the address after it less 1, and loads PC. -/
theorem jsrPushesItsLastByte : Obligations.JsrPushesItsLastByte := by
  unfold Obligations.JsrPushesItsLastByte
  intro addr s hwf
  have hlast : s.pc + 3 - 1 = s.pc + 2 := add_sub_assoc s.pc 3 1
  have hsp : s.sp - 1 - 1 = s.sp - 2 := sub_sub s.sp 1 1
  have hstored := storedAfter_pushWord (s := s.advance 3) hwf (s.pc + 2)
  rw [stackAddr_eq, stackAddr_eq] at hstored
  have hexec : exec (.jsr addr) s = .next ((((s.advance 3).pushWord (s.pc + 2)).setPC addr).finish 0x20 false 0) := by
    rw [← hlast]
    rfl
  exact ⟨rfl, _, s.draws + 1, hstored,
    exec_of_movedTo (f := ⟨.jsr addr, .absolute addr, [0x20, loByte addr, hiByte addr], 6, false⟩)
      ⟨rfl, rfl, _, rfl⟩ hexec ⟨⟨by simp, rfl, hsp, rfl⟩, by simp⟩⟩

/-- Settles O45: two pulls give the word, and PC takes its successor. -/
theorem rtsReturnsPastThePulledAddress : Obligations.RtsReturnsPastThePulledAddress := by
  unfold Obligations.RtsReturnsPastThePulledAddress
  intro s
  have hsp : s.sp + 1 + 1 = s.sp + 2 := add_assoc s.sp 1 1
  refine ⟨rfl, s.draws + 1, ?_⟩
  rw [BitVec.ofNat_add, ← topWord_eq_ofNat]
  exact exec_of_movedTo (f := ⟨.rts, .implied, [0x60], 6, false⟩)
    (t := (s.advance 1).pulled.pulled.setPC (s.topWord + 1)) ⟨rfl, rfl, _, rfl⟩ rfl
    ⟨⟨rfl, rfl, hsp, rfl⟩, by simp⟩

/-- Settles O46: one pull gives every flag but B, two more give PC, and the step ends with the restored I as mask. -/
theorem rtiRestoresStatusAndPC : Obligations.RtiRestoresStatusAndPC := by
  unfold Obligations.RtiRestoresStatusAndPC
  intro s
  have hsp : (returnFromHandler (s.advance 1)).sp = s.sp + 3 := by
    rw [returnFromHandler_sp, add_assoc, add_assoc]
    rfl
  have hword : s.pulled.topWord = BitVec.ofNat 16 (256 * (s.stored (0x0100 + zext16 (s.sp + 3))).toNat +
      (s.stored (0x0100 + zext16 (s.sp + 2))).toNat) := by
    rw [topWord_eq_ofNat, State.pulled_sp, add_assoc, add_assoc]
    rfl
  rw [← top_eq_stored, ← hword]
  refine ⟨rfl, _, s.draws + 1, statusAfter_pulledStatus s.p s.top, ?_⟩
  exact exec_of_movedTo (f := ⟨.rti, .implied, [0x40], 6, false⟩) (t := returnFromHandler (s.advance 1))
    ⟨rfl, rfl, _, rfl⟩ rfl ⟨⟨returnFromHandler_p _, returnFromHandler_pc _, hsp, returnFromHandler_mem _⟩, by simp⟩

/-- Settles O47: BRK enters the handler from the state past its padding byte. -/
theorem brkEntersTheHandler : Obligations.BrkEntersTheHandler := by
  unfold Obligations.BrkEntersTheHandler
  intro pad s hwf
  have hstored := storedAfter_enterHandler (s := s.advance 2) hwf (softwareStatus s.p) vecIrq
  rw [stackAddr_eq, stackAddr_eq, stackAddr_eq] at hstored
  have hpc : (enterHandler (softwareStatus s.p) vecIrq (s.advance 2)).pc = s.readWord .vectorLo .vectorHi 0xFFFE :=
    enterHandler_pc_eq_readWord (s := s.advance 2) _ hwf (by decide) (by decide)
  have hsp : (enterHandler (softwareStatus s.p) vecIrq (s.advance 2)).sp = s.sp - 3 := by
    rw [enterHandler_sp, sub_sub, sub_sub]
    rfl
  exact ⟨rfl, _, _, s.draws + 1, statusAfter_setFlag s.p .I true, hstored,
    exec_of_movedTo (f := ⟨.brk pad, .padded pad, [0x00, pad], 7, false⟩) ⟨rfl, rfl, _, rfl⟩ rfl
      ⟨⟨enterHandler_p _ _ _, hpc, hsp, rfl⟩, by simp⟩⟩

/-- Settles O48: each of the eight is `branch` on its flag. -/
theorem branchesAddTheOffset : Obligations.BranchesAddTheOffset := by
  unfold Obligations.BranchesAddTheOffset
  intro off s fc hfc
  have hbranch := branchForms_branches off s fc hfc
  refine ⟨hbranch.table.encode_eq, s.draws + 1, fun hcond => ?_, fun hcond => ?_⟩
  · rw [hcond] at hbranch
    exact exec_of_branches_taken hbranch
  · rw [hcond] at hbranch
    exact exec_of_branches_untaken hbranch

end Sys2Proof.Machine
end

section
/-! PROOFS of O1 to O4 (30_encoding.md): the encoder and the decoder are inverse to each other. -/

namespace Sys2Proof

/-! ### Reading an instruction off a list -/

theorem operandCount_le_two : ∀ op : Byte, operandCount op ≤ 2 := by decide +kernel

/-- The decoder takes the operand bytes its opcode asks for, and leaves the rest. -/
theorem decode_cons_append {op : Byte} {bs : List Byte} (h : bs.length = operandCount op) (rest : List Byte) :
    decode (op :: (bs ++ rest)) = .ok (decodeBytes op (bs.getD 0 0) (bs.getD 1 0), rest) := by
  match bs with
  | [] => simp [decode, ← h]
  | [b1] => simp [decode, ← h]
  | [b1, b2] => simp [decode, ← h]
  | _ :: _ :: _ :: _ =>
    have hle := operandCount_le_two op
    rw [← h] at hle
    contradiction

/-- Whatever the decoder reads, it reads in that way. -/
theorem exists_of_decode_eq_ok {bytes : List Byte} {i : Instr} {rest : List Byte} (h : decode bytes = .ok (i, rest)) :
    ∃ op bs, bs.length = operandCount op ∧ bytes = op :: (bs ++ rest) ∧
      i = decodeBytes op (bs.getD 0 0) (bs.getD 1 0) := by
  unfold decode at h
  split at h
  · contradiction
  next op tail =>
    split at h
    next hcount =>
      obtain ⟨rfl, rfl⟩ := Prod.mk.inj (Except.ok.inj h)
      exact ⟨op, [], hcount.symm, rfl, rfl⟩
    next b1 rest hcount =>
      obtain ⟨rfl, rfl⟩ := Prod.mk.inj (Except.ok.inj h)
      exact ⟨op, [b1], hcount.symm, rfl, rfl⟩
    next b1 b2 rest hcount =>
      obtain ⟨rfl, rfl⟩ := Prod.mk.inj (Except.ok.inj h)
      exact ⟨op, [b1, b2], hcount.symm, rfl, rfl⟩
    · contradiction

/-! ### Each instruction against its opcode (R102, R105) -/

/-- What the decoder makes of the opcode of `i`: with any operand bytes an instruction whose encoding is those bytes,
and with the operand bytes of `i` itself `i`. -/
structure Instr.Roundtrips (i : Instr) : Prop where
  encode_decodeBytes : ∀ b1 b2,
    encode (decodeBytes i.opcode b1 b2) = i.opcode :: [b1, b2].take (operandCount i.opcode)
  wellFormed_decodeBytes : ∀ b1 b2, (decodeBytes i.opcode b1 b2).wellFormed = true
  decodeBytes_operand : decodeBytes i.opcode (i.operand.bytes.getD 0 0) (i.operand.bytes.getD 1 0) = i

/-- An instruction with a word operand, its low byte first (R73): a word is its two bytes. -/
theorem roundtrips_of_word {form : Word → Instr} {op : Byte}
    (hencode : ∀ w, encode (form w) = [op, loByte w, hiByte w])
    (hdecode : ∀ lo hi, decodeBytes op lo hi = form (w16 hi lo)) (hcount : operandCount op = 2)
    (hwf : ∀ w, (form w).wellFormed = true) (w : Word) : (form w).Roundtrips := by
  obtain ⟨hop, hbytes⟩ := List.cons.inj (hencode w)
  refine ⟨fun lo hi => ?_, fun lo hi => ?_, ?_⟩
  · rw [hop, hdecode, hencode, loByte_w16, hiByte_w16, hcount]
    rfl
  · rw [hop, hdecode]
    exact hwf _
  · rw [hop, hbytes, hdecode]
    exact congrArg form (w16_hiByte_loByte w)

/-- An instruction with a byte operand. -/
theorem roundtrips_of_byte {form : Byte → Instr} {op : Byte} (hencode : ∀ b, encode (form b) = [op, b])
    (hdecode : ∀ lo hi, decodeBytes op lo hi = form lo) (hcount : operandCount op = 1)
    (hwf : ∀ b, (form b).wellFormed = true) (b : Byte) : (form b).Roundtrips := by
  obtain ⟨hop, hbytes⟩ := List.cons.inj (hencode b)
  refine ⟨fun lo hi => ?_, fun lo hi => ?_, ?_⟩
  · rw [hop, hdecode, hencode, hcount]
    rfl
  · rw [hop, hdecode]
    exact hwf _
  · rw [hop, hbytes, hdecode]
    rfl

/-- An instruction of one byte. -/
theorem roundtrips_of_no_operand {i : Instr} (hencode : encode i = [i.opcode])
    (hdecode : ∀ lo hi, decodeBytes i.opcode lo hi = i) (hcount : operandCount i.opcode = 0)
    (hwf : i.wellFormed = true) : i.Roundtrips := by
  refine ⟨fun lo hi => ?_, fun lo hi => ?_, hdecode _ _⟩
  · rw [hdecode, hencode, hcount]
    rfl
  · rw [hdecode]
    exact hwf

/-- R107's values are those that the map gives no instruction, whatever bytes follow. -/
theorem decodeBytes_of_undocumented (b1 b2 : Byte) : ∀ op ∈ undocumentedOpcodes, decodeBytes op b1 b2 = .ill op := by
  simp only [undocumentedOpcodes, List.cons_append, List.nil_append, List.forall_mem_cons, List.not_mem_nil,
    false_imp_iff, implies_true, and_true]
  and_intros <;> rfl

theorem isUndocumented_iff (op : Byte) : isUndocumented op = true ↔ op ∈ undocumentedOpcodes := List.contains_iff_mem

/-- The encoder's columns and the decoder's are the same table, row by row. -/
theorem roundtrips_of_wellFormed {i : Instr} (hwf : i.wellFormed = true) : i.Roundtrips := by
  cases i with
  | ill op =>
    have hop := (isUndocumented_iff op).mp hwf
    exact roundtrips_of_no_operand rfl (fun lo hi => decodeBytes_of_undocumented lo hi op hop)
      (Laws.EncodedLength.operandCount_undocumented op hwf) hwf
  | php | plp | pha | pla | rti | rts | clc | sec | cli | sei | clv | cld | sed | nop | tax | tay | txa | tya | tsx
  | txs | inx | iny | dex | dey | aslAccumulator | rolAccumulator | lsrAccumulator | rorAccumulator =>
    exact roundtrips_of_no_operand rfl (fun _ _ => rfl) rfl rfl
  | jsr w | jmpAbsolute w | jmpIndirect w
  | oraAbsolute w | andAbsolute w | eorAbsolute w | adcAbsolute w | staAbsolute w | ldaAbsolute w | cmpAbsolute w
  | sbcAbsolute w | aslAbsolute w | rolAbsolute w | lsrAbsolute w | rorAbsolute w | stxAbsolute w | ldxAbsolute w
  | decAbsolute w | incAbsolute w | bitAbsolute w | styAbsolute w | ldyAbsolute w | cpyAbsolute w | cpxAbsolute w
  | oraAbsoluteX w | andAbsoluteX w | eorAbsoluteX w | adcAbsoluteX w | staAbsoluteX w | ldaAbsoluteX w
  | cmpAbsoluteX w | sbcAbsoluteX w | aslAbsoluteX w | rolAbsoluteX w | lsrAbsoluteX w | rorAbsoluteX w
  | decAbsoluteX w | incAbsoluteX w | ldyAbsoluteX w
  | oraAbsoluteY w | andAbsoluteY w | eorAbsoluteY w | adcAbsoluteY w | staAbsoluteY w | ldaAbsoluteY w
  | cmpAbsoluteY w | sbcAbsoluteY w | ldxAbsoluteY w =>
    exact roundtrips_of_word (fun _ => rfl) (fun _ _ => rfl) rfl (fun _ => rfl) w
  | _ b => exact roundtrips_of_byte (fun _ => rfl) (fun _ _ => rfl) rfl (fun _ => rfl) b

/-- Every opcode value is the opcode of a well-formed instruction: a check of the 256 values (R104). -/
theorem decodeBytes_zero_opcode_and_wellFormed :
    ∀ op : Byte, (decodeBytes op 0 0).opcode = op ∧ (decodeBytes op 0 0).wellFormed = true := by decide +kernel

/-- What is decoded from an opcode and as many bytes as it takes is well-formed and is encoded as those bytes. -/
theorem wellFormed_and_encode_decodeBytes {op : Byte} {bs : List Byte} (h : bs.length = operandCount op) :
    (decodeBytes op (bs.getD 0 0) (bs.getD 1 0)).wellFormed = true ∧
      encode (decodeBytes op (bs.getD 0 0) (bs.getD 1 0)) = op :: bs := by
  obtain ⟨hop, hwf⟩ := decodeBytes_zero_opcode_and_wellFormed op
  obtain ⟨hencode, hwfs, -⟩ := roundtrips_of_wellFormed hwf
  rw [hop] at hencode hwfs
  refine ⟨hwfs _ _, ?_⟩
  rw [hencode, ← h]
  match bs with
  | [] | [_] | [_, _] => rfl
  | _ :: _ :: _ :: _ =>
    have hle := operandCount_le_two op
    rw [← h] at hle
    contradiction

/-! ### The obligations -/

/-- Settles O2: the operand bytes are as many as the opcode takes, and decoded with it they give the instruction. -/
theorem decodeAfterEncode : Obligations.DecodeAfterEncode := by
  unfold Obligations.DecodeAfterEncode
  intro i rest hwf
  have hlength : i.operand.bytes.length = operandCount i.opcode := Nat.succ.inj (encode_length_eq_operandCount hwf)
  exact (decode_cons_append hlength rest).trans
    (congrArg (fun j => Except.ok (j, rest)) (roundtrips_of_wellFormed hwf).decodeBytes_operand)

/-- What decodes is well-formed, and its encoding is what was read. -/
theorem wellFormed_and_eq_encode_of_decode {bytes : List Byte} {i : Instr} {rest : List Byte}
    (h : decode bytes = .ok (i, rest)) : i.wellFormed = true ∧ bytes = encode i ++ rest := by
  obtain ⟨op, bs, hlength, rfl, rfl⟩ := exists_of_decode_eq_ok h
  obtain ⟨hwf, hencode⟩ := wellFormed_and_encode_decodeBytes hlength
  exact ⟨hwf, by rw [hencode, List.cons_append]⟩

/-- Settles O3: a decoded instruction comes from an opcode and as many bytes as it takes. -/
theorem encodeAfterDecode : Obligations.EncodeAfterDecode := by
  unfold Obligations.EncodeAfterDecode
  exact fun _ _ _ => wellFormed_and_eq_encode_of_decode

/-- Two bytes after the opcode are enough for the decoder. -/
theorem exists_decode_eq_ok (op b1 b2 : Byte) : ∃ i rest, decode [op, b1, b2] = .ok (i, rest) := by
  have hlength : ([b1, b2].take (operandCount op)).length = operandCount op := by
    have := operandCount_le_two op
    simpa
  have hdecode := decode_cons_append hlength ([b1, b2].drop (operandCount op))
  rw [List.take_append_drop] at hdecode
  exact ⟨_, _, hdecode⟩

theorem mem_undocumentedOpcodes_iff_entry_eq_none : ∀ op : Byte, op ∈ undocumentedOpcodes ↔ entry op = none := by
  decide +kernel

/-- Settles O4: totality and the opcode from what the decoder reads, the undocumented values by a check of the 256. -/
theorem everyOpcodeDecodes : Obligations.EveryOpcodeDecodes := by
  unfold Obligations.EveryOpcodeDecodes
  refine ⟨fun op b1 b2 => ?_, fun op b1 b2 => ⟨fun h => ?_, fun h => ?_⟩, mem_undocumentedOpcodes_iff_entry_eq_none,
    by decide +kernel, rfl, rfl⟩
  · obtain ⟨i, rest, hdecode⟩ := exists_decode_eq_ok op b1 b2
    obtain ⟨hwf, hbytes⟩ := wellFormed_and_eq_encode_of_decode hdecode
    exact ⟨i, rest, hdecode, hwf, (List.cons.inj hbytes).1.symm⟩
  · exact decode_of_entry_eq_none [b1, b2] ((mem_undocumentedOpcodes_iff_entry_eq_none op).mp h)
  · exact (isUndocumented_iff op).mp (wellFormed_and_eq_encode_of_decode h).1

/-- Settles O1: the decoder run on each word. -/
theorem specWordsDecode : Obligations.SpecWordsDecode := by
  unfold Obligations.SpecWordsDecode
  and_intros <;> rfl

end Sys2Proof
end

section
/-! PROOFS of O6, O12, O26 and O59: what a step runs, device accesses, the resolver's operand values, and the host's
requests. -/

namespace Sys2Proof.Machine

/-! ### What a step runs -/

theorem step_of_poll_stuck {s : State} (h : s.poll = .stuck) : step s = .fault (.halted s.pc) := by simp [step, h]

theorem step_of_poll_instruction {s : State} (h : s.poll = .instruction) : step s = exec (fetchInstr s) s := by
  simp [step, h]

/-- The decoder, given the three bytes from PC on, reads what the fetch unit fetches (R131). -/
theorem decode_fetched_bytes (s : State) : ∃ rest,
    decode [s.memRead .opcode s.pc, s.memRead .operandLo (s.pc + 1), s.memRead .operandHi (s.pc + 2)] =
      .ok (fetchInstr s, rest) := by
  have hpc : s.pc + 2 = s.pc + 1 + 1 := (add_assoc s.pc 1 1).symm
  have hle := operandCount_le_two (s.memRead .opcode s.pc)
  have hcounts : operandCount (s.memRead .opcode s.pc) = 0 ∨ operandCount (s.memRead .opcode s.pc) = 1 ∨
      operandCount (s.memRead .opcode s.pc) = 2 := by omega
  rw [hpc]
  unfold decode fetchInstr State.fetch
  rcases hcounts with hcount | hcount | hcount
  all_goals
    simp only [hcount]
    exact ⟨_, rfl⟩

/-- Only instructions of the hardware are fetched. -/
theorem fetchInstr_wellFormed (s : State) : (fetchInstr s).wellFormed = true := by
  obtain ⟨rest, hdecode⟩ := decode_fetched_bytes s
  exact (wellFormed_and_eq_encode_of_decode hdecode).1

/-- Settles O6: the decoded instruction is the one fetched, and the poll lets it run. -/
theorem stepRunsDecodedInstruction : Obligations.StepRunsDecodedInstruction := by
  unfold Obligations.StepRunsDecodedInstruction
  intro s i rest hhalted hnmi hirq hdecode
  obtain ⟨rest', hfetched⟩ := decode_fetched_bytes s
  obtain ⟨rfl, -⟩ := Prod.mk.inj (Except.ok.inj (hdecode.symm.trans hfetched))
  exact ⟨step_of_poll_instruction (State.poll_instruction hhalted hnmi hirq), fetchInstr_wellFormed s⟩

/-! ### Device accesses (R80) -/

theorem isDevice_iff_of_attached {s : State} {d : List DeviceRange} (hbus : s.bus = .attached d) (a : Word) :
    s.isDevice a = true ↔ 0x2000 ≤ a ∧ ∃ r ∈ d, r.first ≤ a ∧ a ≤ r.last := by
  simp only [State.isDevice, hbus, Bool.and_eq_true, decide_eq_true_eq, List.any_eq_true, DeviceRange.holds]
  rfl

theorem isDevice_of_ram {s : State} {a : Word} (ha : a < 0x2000) : s.isDevice a = false := by
  cases hbus : s.bus with
  | passive => exact isDevice_of_passive a hbus
  | attached d =>
    rw [← Bool.not_eq_true, isDevice_iff_of_attached hbus]
    exact fun h => BitVec.not_le.mpr ha h.1

/-- Settles O12: a read at a device address is a draw and a write is not stored; the addresses are the bus's. -/
theorem deviceAccessesAreDraws : Obligations.DeviceAccessesAreDraws := by
  unfold Obligations.DeviceAccessesAreDraws
  refine fun s a v k => ⟨fun h => ⟨if_pos h, ?_⟩, fun h => ⟨State.memRead_of_not_device k h, ?_⟩, isDevice_of_ram,
    isDevice_of_passive a, fun d hbus => isDevice_iff_of_attached hbus a⟩
  · rw [State.memWrite, if_pos h]
  · rw [State.memWrite, h]
    rfl

/-! ### Operand values (R149, R152, R332) -/

/-- Settles O26: a form with an address reads there; the others evaluate. -/
theorem operandValues : Obligations.OperandValues := by
  unfold Obligations.OperandValues
  exact fun s b v => ⟨rfl, rfl, fun _ _ => readOperand_of_address, rfl, rfl, rfl, rfl, rfl, rfl, rfl, rfl, rfl,
    fun _ => rfl⟩

/-! ### The host's requests (R353) -/

/-- Settles O59: a request writes its latch and the returned value, to the same values at every call. -/
theorem requestsOnlyLatch : Obligations.RequestsOnlyLatch := by
  unfold Obligations.RequestsOnlyLatch
  exact fun _ => ⟨rfl, rfl, rfl, rfl⟩

end Sys2Proof.Machine
end

section
/-! PROOFS of O19 and O20: what every instruction can do, by its mnemonic. -/

namespace Sys2Proof.Machine

/-! ### The meanings by mnemonic -/

/-- JSR in operand form `o`, which has to have an address (R292). -/
def jsrOp (o : Operand) (s : State) : Result :=
  match getAddress o s with
  | .ok ea => execJsr ea.addr s
  | .error m => misuse m s

/-- The meaning of a mnemonic in operand form `o`: the arms of `exec` by their 56 mnemonics (R105). -/
def execMnemonic (m : Mnemonic) (op : Byte) (o : Operand) (s : State) : Result :=
  match m with
  | .adc => adcOp op o s
  | .sbc => sbcOp op o s
  | .and => andOp op o s
  | .ora => oraOp op o s
  | .eor => eorOp op o s
  | .bit => bitOp op o s
  | .cmp => cmpOp op o s
  | .cpx => cpxOp op o s
  | .cpy => cpyOp op o s
  | .lda => ldaOp op o s
  | .ldx => ldxOp op o s
  | .ldy => ldyOp op o s
  | .sta => staOp op o s
  | .stx => stxOp op o s
  | .sty => styOp op o s
  | .asl => aslOp op o s
  | .lsr => lsrOp op o s
  | .rol => rolOp op o s
  | .ror => rorOp op o s
  | .inc => incOp op o s
  | .dec => decOp op o s
  | .tax => execTax s
  | .tay => execTay s
  | .txa => execTxa s
  | .tya => execTya s
  | .tsx => execTsx s
  | .txs => execTxs s
  | .inx => execInx s
  | .iny => execIny s
  | .dex => execDex s
  | .dey => execDey s
  | .pha => execPha s
  | .php => execPhp s
  | .pla => execPla s
  | .plp => execPlp s
  | .jmp => jmpOp op o s
  | .jsr => jsrOp o s
  | .rts => execRts s
  | .rti => execRti s
  | .brk => execBrk (o.bytes.headD 0) s
  | .bpl => execBpl (o.bytes.headD 0) s
  | .bmi => execBmi (o.bytes.headD 0) s
  | .bvc => execBvc (o.bytes.headD 0) s
  | .bvs => execBvs (o.bytes.headD 0) s
  | .bcc => execBcc (o.bytes.headD 0) s
  | .bcs => execBcs (o.bytes.headD 0) s
  | .bne => execBne (o.bytes.headD 0) s
  | .beq => execBeq (o.bytes.headD 0) s
  | .clc => execClc s
  | .sec => execSec s
  | .cli => execCli s
  | .sei => execSei s
  | .clv => execClv s
  | .cld => execCld s
  | .sed => execSed s
  | .nop => execNop s

/-- The operand forms that `get_address` resolves (R140 to R145). -/
def hasAddress (o : Operand) : Bool :=
  match o with
  | .implied | .padded _ | .accumulator | .immediate _ | .relative _ => false
  | _ => true

/-- The operand forms the opcode map gives a mnemonic, as far as a meaning depends on them (R105). -/
def takesOperand (m : Mnemonic) (o : Operand) : Bool :=
  match m with
  | .adc | .sbc | .and | .ora | .eor | .bit | .cmp | .cpx | .cpy | .lda | .ldx | .ldy =>
    hasAddress o || decide (o.mode = .immediate)
  | .asl | .lsr | .rol | .ror => hasAddress o || decide (o = .accumulator)
  | .sta | .stx | .sty | .inc | .dec | .jmp | .jsr => hasAddress o
  | _ => true

/-- Every documented instruction means what its mnemonic means in its operand form. -/
theorem exec_eq_execMnemonic {i : Instr} (hdoc : ∀ op, i ≠ .ill op) :
    ∃ m, i.mnemonic = some m ∧ takesOperand m i.operand = true ∧
      ∀ s, exec i s = execMnemonic m i.opcode i.operand s := by
  cases i with
  | ill op => exact absurd rfl (hdoc op)
  | _ => exact ⟨_, rfl, rfl, fun _ => rfl⟩

/-! ### The shapes of a meaning, for an operand that its mnemonic takes -/

theorem exists_getAddress {o : Operand} (h : hasAddress o = true) (s : State) : ∃ ea, getAddress o s = .ok ea := by
  cases o with
  | implied | padded _ | accumulator | immediate _ | relative _ => contradiction
  | _ => exact ⟨_, rfl⟩

theorem exists_readOperand {o : Operand} (h : (hasAddress o || decide (o.mode = .immediate)) = true) (s : State) :
    ∃ v crossed, readOperand o s = .ok (v, crossed) := by
  cases o with
  | implied | padded _ | accumulator | relative _ => contradiction
  | _ => exact ⟨_, _, rfl⟩

/-- The result is a next state with the property `P`. -/
def Ends (P : State → Prop) (r : Result) : Prop := ∃ t, r = .next t ∧ P t

section

variable {P : State → Prop} {op : Byte} {o : Operand} {s : State}

theorem withValue_ends {f : Byte → State → State}
    (ho : (hasAddress o || decide (o.mode = .immediate)) = true)
    (hdone : ∀ v crossed, P ((f v (s.advance o.length)).finish op crossed 0)) : Ends P (withValue op o s f) := by
  obtain ⟨v, crossed, hread⟩ := exists_readOperand ho s
  exact ⟨_, withValue_of_read hread, hdone v crossed⟩

theorem withStore_ends {v : Byte} (ho : hasAddress o = true)
    (hdone : ∀ a crossed, P (((s.advance o.length).memWrite a v).finish op crossed 0)) :
    Ends P (withStore op o s v) := by
  obtain ⟨ea, hea⟩ := exists_getAddress ho s
  exact ⟨_, withStore_of_address hea, hdone ea.addr ea.crossed⟩

theorem withModify_ends_of_address {f : Byte → State → Byte × State} (ho : hasAddress o = true)
    (hdone : ∀ a v crossed,
      P (((f v (s.advance o.length)).2.memWrite a (f v (s.advance o.length)).1).finish op crossed 0)) :
    Ends P (withModify op o s f) := by
  obtain ⟨ea, hea⟩ := exists_getAddress ho s
  exact ⟨_, withModify_of_address hea, hdone ea.addr _ ea.crossed⟩

theorem withModify_ends {f : Byte → State → Byte × State}
    (ho : (hasAddress o || decide (o = .accumulator)) = true)
    (haddr : ∀ a v crossed,
      P (((f v (s.advance o.length)).2.memWrite a (f v (s.advance o.length)).1).finish op crossed 0))
    (hacc : o = .accumulator → ∀ v, P (((f v (s.advance 1)).2.setA (f v (s.advance 1)).1).finish op false 0)) :
    Ends P (withModify op o s f) := by
  rcases Bool.or_eq_true_iff.mp ho with ho | ho
  · exact withModify_ends_of_address ho haddr
  · obtain rfl := of_decide_eq_true ho
    exact ⟨_, withModify_accumulator, hacc rfl _⟩

theorem branch_ends {off : Byte} {cond : Bool}
    (hdone : ∀ pc extra, extra ≤ 2 → P (((s.advance 2).setPC pc).finish op false extra)) :
    Ends P (branch op off cond s) := by
  cases cond with
  | false => exact ⟨_, branch_untaken op off s, hdone (s.advance 2).pc 0 (Nat.zero_le 2)⟩
  | true =>
    have hextra : branchExtra off s ≤ 2 := by
      unfold branchExtra
      split_ifs <;> omega
    exact ⟨_, branch_taken op off s, hdone _ _ hextra⟩

theorem jsrOp_ends (ho : hasAddress o = true)
    (hdone : ∀ a, P ((((s.advance 3).pushWord ((s.advance 3).pc - 1)).setPC a).finish 0x20 false 0)) :
    Ends P (jsrOp o s) := by
  obtain ⟨ea, hea⟩ := exists_getAddress ho s
  exact ⟨_, by simp only [jsrOp, hea]; rfl, hdone ea.addr⟩

theorem jmpOp_ends (ho : hasAddress o = true) (hdone : ∀ pc, P (((s.advance o.length).setPC pc).finish op false 0)) :
    Ends P (jmpOp op o s) := by
  obtain ⟨ea, hea⟩ := exists_getAddress ho s
  exact ⟨_, jmpOp_of_address hea, hdone ea.addr⟩

end

/-! ### What an instruction of each mnemonic writes -/

/-- From `p` to `p'` the stored B is kept, and bit 5 stays set (R44, R45). -/
def StatusKept (p p' : Byte) : Prop :=
  flagOf p' .B = flagOf p .B ∧ (p.getLsbD 5 = true → p'.getLsbD 5 = true)

/-- The mnemonics that write A (R33). -/
def writersOfA : List Mnemonic := [.lda, .txa, .tya, .pla, .adc, .sbc, .and, .ora, .eor, .asl, .lsr, .rol, .ror]

/-- The shifts and rotates, which write A in their accumulator form alone (R250 to R253). -/
def shifts : List Mnemonic := [.asl, .lsr, .rol, .ror]

/-- The mnemonics that write X (R34). -/
def writersOfX : List Mnemonic := [.ldx, .tax, .tsx, .inx, .dex]

/-- The mnemonics that write Y (R35). -/
def writersOfY : List Mnemonic := [.ldy, .tay, .iny, .dey]

/-- The mnemonics that write SP (R38). -/
def writersOfSP : List Mnemonic := [.txs, .pha, .php, .pla, .plp, .jsr, .rts, .rti, .brk]

/-- The mnemonics that write memory (R150, R152, R153). -/
def writersOfMemory : List Mnemonic := [.sta, .stx, .sty, .asl, .lsr, .rol, .ror, .inc, .dec, .pha, .php, .jsr, .brk]

/-- How an instruction with mnemonic `m` and operand `o` can change the state from `s` to `t`: it keeps the store and P
in form, leaves the platform and the latches, and writes a register or memory only as one of its writers. -/
def ExecFrame (m : Mnemonic) (o : Operand) (s t : State) : Prop :=
  (s.mem.wf = true → t.mem.wf = true) ∧ StatusKept s.p t.p ∧
  (t.bus = s.bus ∧ t.draws = s.draws + 1 ∧ t.nmiPending = s.nmiPending ∧ t.irqPending = s.irqPending) ∧
  (t.a = s.a ∨ m ∈ writersOfA ∧ (m ∈ shifts → o = .accumulator)) ∧ (t.x = s.x ∨ m ∈ writersOfX) ∧
  (t.y = s.y ∨ m ∈ writersOfY) ∧ (t.sp = s.sp ∨ m ∈ writersOfSP) ∧ (t.mem = s.mem ∨ m ∈ writersOfMemory)

/-- PLP and RTI keep the stored B (R283, R296). -/
theorem statusKept_pulledStatus (p v : Byte) : StatusKept p (pulledStatus p v ||| 0x20#8) := by
  have hbit5 : pulledStatus p v ||| 0x20#8 = pulledStatus p v := or_20_of_bit5 (pulledStatus_bit5 p v)
  simp [StatusKept, hbit5]

theorem execMnemonic_frame {m : Mnemonic} {o : Operand} (ho : takesOperand m o = true) (op : Byte) (s : State) :
    Ends (ExecFrame m o s) (execMnemonic m op o s) := by
  cases m with
  | adc | sbc | and | ora | eor | lda =>
    simp only [execMnemonic]
    refine withValue_ends ho fun _ _ => ?_
    simp [ExecFrame, StatusKept, writersOfA, shifts, State.takeSum]
  | bit | cmp | cpx | cpy | ldx | ldy =>
    simp only [execMnemonic, cmpOp, cpxOp, cpyOp]
    refine withValue_ends ho fun _ _ => ?_
    simp [ExecFrame, StatusKept, writersOfX, writersOfY]
  | sta | stx | sty =>
    refine withStore_ends ho fun _ _ => ⟨fun hwf => State.memWrite_wf _ _ hwf, ?_⟩
    simp [StatusKept, writersOfMemory]
  | inc | dec =>
    refine withModify_ends_of_address ho fun _ _ _ => ⟨fun hwf => State.memWrite_wf _ _ hwf, ?_⟩
    simp [StatusKept, writersOfMemory, stepBy]
  | asl | lsr | rol | ror =>
    refine withModify_ends ho (fun _ _ _ => ⟨fun hwf => State.memWrite_wf _ _ hwf, ?_⟩) fun ho _ => ?_
    · simp [StatusKept, writersOfMemory, shiftBy]
    · simp [ExecFrame, StatusKept, writersOfA, shiftBy, ho]
  | bpl | bmi | bvc | bvs | bcc | bcs | bne | beq =>
    refine branch_ends fun _ _ _ => ?_
    simp [ExecFrame, StatusKept]
  | jmp =>
    refine jmpOp_ends ho fun _ => ?_
    simp [ExecFrame, StatusKept]
  | jsr =>
    refine jsrOp_ends ho fun _ => ⟨fun hwf => ?_, ?_⟩
    · rw [State.finish_mem, State.setPC_mem]
      exact State.pushWord_wf _ hwf
    · simp [StatusKept, writersOfSP, writersOfMemory]
  | pha | php =>
    refine ⟨_, rfl, fun hwf => ?_, ?_⟩
    · rw [State.finish_mem]
      exact State.push_wf _ hwf
    · simp [StatusKept, writersOfSP, writersOfMemory]
  | brk =>
    refine ⟨_, rfl, fun hwf => ?_, ?_⟩
    · rw [State.finish_mem]
      exact enterHandler_wf _ _ hwf
    · simp [StatusKept, writersOfSP, writersOfMemory]
  | plp | rti =>
    refine ⟨_, rfl, ?_⟩
    simp [ExecFrame, statusKept_pulledStatus, writersOfSP]
  | _ =>
    refine ⟨_, rfl, ?_⟩
    simp [ExecFrame, StatusKept, writersOfA, shifts, writersOfX, writersOfY, writersOfSP]

/-! ### A completed instruction returns 2 to 7 cycles (R354, R382) -/

/-- The result is a next state that carries a cycle count within R354's bounds, with `halted` as before. -/
def CompletesInBounds (s : State) (r : Result) : Prop :=
  Ends (fun t => ∃ n, t.returned = .cycles n ∧ 2 ≤ n ∧ n ≤ 7 ∧ t.halted = s.halted) r

theorem completesInBounds_of_finish {s u : State} {op : Byte} {crossed : Bool} (hentry : (entry op).isSome = true)
    (hhalted : u.halted = s.halted) : CompletesInBounds s (.next (u.finish op crossed 0)) := by
  obtain ⟨hlo, hhi⟩ := cyclesOf_bounds op crossed hentry
  exact ⟨_, rfl, _, State.finish_returned u op crossed 0, hlo, hhi, hhalted⟩

theorem completesInBounds_of_finishDelayed {s u : State} {op : Byte} {before : Bool}
    (hentry : (entry op).isSome = true) (hhalted : u.halted = s.halted) :
    CompletesInBounds s (.next (u.finishDelayed op before)) := by
  obtain ⟨hlo, hhi⟩ := cyclesOf_bounds op false hentry
  exact ⟨_, rfl, _, State.finishDelayed_returned u op before, hlo, hhi, hhalted⟩

/-- A branch costs 2 cycles, and at most 2 more when it is taken (R300). -/
theorem completesInBounds_branch {op off : Byte} {cond : Bool} {s : State}
    (hmode : (entry op).map Entry.mode = some .relative) : CompletesInBounds s (branch op off cond s) := by
  obtain ⟨e, hentry, hrel⟩ := Option.map_eq_some_iff.mp hmode
  obtain ⟨-, -, hbase⟩ := entry_cycles op e hentry
  obtain ⟨htwo, hpenalty⟩ := hbase hrel
  have hcycles : ∀ extra, cyclesOf op false extra = 2 + extra := fun extra => by
    simp [cyclesOf, hentry, htwo, hpenalty]
  exact branch_ends fun _ extra hextra =>
    ⟨2 + extra, by rw [State.finish_returned, hcycles], by omega, by omega, rfl⟩

theorem exec_completesInBounds {i : Instr} (s : State) (hdoc : ∀ op, i ≠ .ill op) :
    CompletesInBounds s (exec i s) := by
  cases i with
  | ill op => exact absurd rfl (hdoc op)
  | bpl off | bmi off | bvc off | bvs off | bcc off | bcs off | bne off | beq off => exact completesInBounds_branch rfl
  | cli | sei | plp => exact completesInBounds_of_finishDelayed rfl (by simp)
  | _ => exact completesInBounds_of_finish rfl (by simp [State.takeSum, shiftBy, stepBy])

/-! ### The obligations -/

theorem exec_ill (op : Byte) (s : State) : exec (.ill op) s = .next (s.halt (.illegalOpcode op s.pc)) := rfl

/-- Settles O19: ILL halts the core with its fault, and every other instruction completes within the bounds. -/
theorem everyInstructionCompletesOrHalts : Obligations.EveryInstructionCompletesOrHalts := by
  unfold Obligations.EveryInstructionCompletesOrHalts
  intro i s
  by_cases hill : ∃ op, i = .ill op
  · obtain ⟨op, rfl⟩ := hill
    exact ⟨_, exec_ill op s, .inr ⟨op, rfl, rfl, rfl⟩⟩
  · obtain ⟨t, hexec, hbounds⟩ := exec_completesInBounds s (not_exists.mp hill)
    exact ⟨t, hexec, .inl hbounds⟩

/-- A documented instruction changes the state within the frame of its mnemonic. -/
theorem exec_frame {i : Instr} {s t : State} (hdoc : ∀ op, i ≠ .ill op) (ht : exec i s = .next t) :
    ∃ m, i.mnemonic = some m ∧ ExecFrame m i.operand s t := by
  obtain ⟨m, hm, ho, hexec⟩ := exec_eq_execMnemonic hdoc
  obtain ⟨u, hu, hframe⟩ := execMnemonic_frame ho i.opcode s
  obtain rfl := Host.Outcome.next.inj (hu.symm.trans ((hexec s).symm.trans ht))
  exact ⟨m, hm, hframe⟩

/-- Settles O20: ILL writes no register and no memory; the frame of a mnemonic names the writers. -/
theorem onlyTheirWritersWriteRegisters : Obligations.OnlyTheirWritersWriteRegisters := by
  unfold Obligations.OnlyTheirWritersWriteRegisters
  intro i s t ht
  by_cases hill : ∃ op, i = .ill op
  · obtain ⟨op, rfl⟩ := hill
    obtain rfl := Host.Outcome.next.inj ((exec_ill op s).symm.trans ht)
    exact ⟨fun h => absurd rfl h, fun h => absurd rfl h, fun h => absurd rfl h, fun h => absurd rfl h,
      fun h => absurd rfl h, fun h => absurd rfl h⟩
  · obtain ⟨m, hm, -, -, -, ha, hx, hy, hsp, hmem⟩ := exec_frame (not_exists.mp hill) ht
    have hlist : ∀ l : List Mnemonic, some m ∈ l.map some ↔ m ∈ l := fun _ =>
      List.mem_map_of_injective (Option.some_injective _)
    rw [hm]
    exact ⟨fun h => (hlist writersOfA).mpr (ha.resolve_left h).1,
      fun h hshift => (ha.resolve_left h).2 ((hlist shifts).mp hshift),
      fun h => (hlist writersOfX).mpr (hx.resolve_left h), fun h => (hlist writersOfY).mpr (hy.resolve_left h),
      fun h => (hlist writersOfSP).mpr (hsp.resolve_left h),
      fun h => (hlist writersOfMemory).mpr (hmem.resolve_left h)⟩

end Sys2Proof.Machine
end

section
/-! PROOF of O18 (70_reset_and_hazards.md): what the last call returned influences no later step. -/

namespace Sys2Proof.Machine

/-! ### The state with another value in the field returned -/

/-- The state with another value in the field returned. -/
def State.withReturned (s : State) (r : Return) : State := { s with returned := r }

section

variable (s : State) (r : Return)

@[simp] theorem State.withReturned_a : (s.withReturned r).a = s.a := rfl
@[simp] theorem State.withReturned_pc : (s.withReturned r).pc = s.pc := rfl
@[simp] theorem State.withReturned_p : (s.withReturned r).p = s.p := rfl
@[simp] theorem State.withReturned_flag (f : Flag) : (s.withReturned r).flag f = s.flag f := rfl
@[simp] theorem State.withReturned_readWord (k l : Access) (a : Word) :
    (s.withReturned r).readWord k l a = s.readWord k l a := rfl
@[simp] theorem State.withReturned_top : (s.withReturned r).top = s.top := rfl
@[simp] theorem State.withReturned_topWord : (s.withReturned r).topWord = s.topWord := rfl

@[simp] theorem State.withReturned_setA (v : Byte) : (s.withReturned r).setA v = (s.setA v).withReturned r := rfl
@[simp] theorem State.withReturned_setX (v : Byte) : (s.withReturned r).setX v = (s.setX v).withReturned r := rfl
@[simp] theorem State.withReturned_setY (v : Byte) : (s.withReturned r).setY v = (s.setY v).withReturned r := rfl
@[simp] theorem State.withReturned_setPC (v : Word) : (s.withReturned r).setPC v = (s.setPC v).withReturned r := rfl
@[simp] theorem State.withReturned_setP (v : Byte) : (s.withReturned r).setP v = (s.setP v).withReturned r := rfl
@[simp] theorem State.withReturned_setFlag (f : Flag) (b : Bool) :
    (s.withReturned r).setFlag f b = (s.setFlag f b).withReturned r := rfl
@[simp] theorem State.withReturned_setZN (v : Byte) : (s.withReturned r).setZN v = (s.setZN v).withReturned r := rfl
@[simp] theorem State.withReturned_advance (n : Nat) :
    (s.withReturned r).advance n = (s.advance n).withReturned r := rfl
@[simp] theorem State.withReturned_push (v : Byte) : (s.withReturned r).push v = (s.push v).withReturned r := rfl
@[simp] theorem State.withReturned_pushWord (w : Word) :
    (s.withReturned r).pushWord w = (s.pushWord w).withReturned r := rfl
@[simp] theorem State.withReturned_pulled : (s.withReturned r).pulled = s.pulled.withReturned r := rfl

/-! The end of a step writes the field. -/

@[simp] theorem State.withReturned_finish (op : Byte) (crossed : Bool) (extra : Nat) :
    (s.withReturned r).finish op crossed extra = s.finish op crossed extra := rfl
@[simp] theorem State.withReturned_finishDelayed (op : Byte) (before : Bool) :
    (s.withReturned r).finishDelayed op before = s.finishDelayed op before := rfl

@[simp] theorem enterHandler_withReturned (b : Byte) (v : Word) :
    enterHandler b v (s.withReturned r) = (enterHandler b v s).withReturned r := by simp [enterHandler]

@[simp] theorem returnFromHandler_withReturned :
    returnFromHandler (s.withReturned r) = (returnFromHandler s).withReturned r := by simp [returnFromHandler]

@[simp] theorem getAddress_withReturned (o : Operand) : getAddress o (s.withReturned r) = getAddress o s := by
  cases o <;> rfl

@[simp] theorem readOperand_withReturned (o : Operand) : readOperand o (s.withReturned r) = readOperand o s := by
  cases o <;> rfl

theorem branch_withReturned (op off : Byte) (cond : Bool) :
    branch op off cond (s.withReturned r) = branch op off cond s := by
  cases cond with
  | false => rfl
  | true => rw [branch_taken, branch_taken]; rfl

end

section

variable {op : Byte} {o : Operand} (s : State) (r : Return)

theorem withValue_withReturned {f : Byte → State → State}
    (ho : (hasAddress o || decide (o.mode = .immediate)) = true)
    (hf : ∀ v t, f v (State.withReturned t r) = (f v t).withReturned r) :
    withValue op o (s.withReturned r) f = withValue op o s f := by
  obtain ⟨v, crossed, hread⟩ := exists_readOperand ho s
  rw [withValue_of_read hread, withValue_of_read ((readOperand_withReturned s r o).trans hread),
    State.withReturned_advance, hf, State.withReturned_finish]

theorem withStore_withReturned (v : Byte) (ho : hasAddress o = true) :
    withStore op o (s.withReturned r) v = withStore op o s v := by
  obtain ⟨ea, hea⟩ := exists_getAddress ho s
  rw [withStore_of_address hea, withStore_of_address ((getAddress_withReturned s r o).trans hea)]
  rfl

theorem withModify_withReturned_of_address {f : Byte → State → Byte × State} (ho : hasAddress o = true)
    (hf : ∀ v t, f v (State.withReturned t r) = ((f v t).1, (f v t).2.withReturned r)) :
    withModify op o (s.withReturned r) f = withModify op o s f := by
  obtain ⟨ea, hea⟩ := exists_getAddress ho s
  rw [withModify_of_address hea, withModify_of_address ((getAddress_withReturned s r o).trans hea),
    State.withReturned_advance, hf]
  rfl

theorem withModify_withReturned {f : Byte → State → Byte × State}
    (ho : (hasAddress o || decide (o = .accumulator)) = true)
    (hf : ∀ v t, f v (State.withReturned t r) = ((f v t).1, (f v t).2.withReturned r)) :
    withModify op o (s.withReturned r) f = withModify op o s f := by
  rcases Bool.or_eq_true_iff.mp ho with ho | ho
  · exact withModify_withReturned_of_address s r ho hf
  · obtain rfl := of_decide_eq_true ho
    rw [withModify_accumulator, withModify_accumulator, State.withReturned_advance, hf]
    rfl

theorem execMnemonic_withReturned {m : Mnemonic} (ho : takesOperand m o = true) :
    execMnemonic m op o (s.withReturned r) = execMnemonic m op o s := by
  cases m with
  | adc | sbc | and | ora | eor | lda | ldx | ldy | cmp | cpx | cpy =>
    simp only [execMnemonic, cmpOp, cpxOp, cpyOp]
    exact withValue_withReturned s r ho fun _ _ => by simp [State.takeSum]
  | bit =>
    simp only [execMnemonic]
    exact withValue_withReturned s r ho fun _ _ => rfl
  | sta | stx | sty => exact withStore_withReturned s r _ ho
  | inc | dec => exact withModify_withReturned_of_address s r ho fun _ _ => rfl
  | asl | lsr | rol | ror => exact withModify_withReturned s r ho fun _ _ => rfl
  | bpl | bmi | bvc | bvs | bcc | bcs | bne | beq => exact branch_withReturned s r _ _ _
  | jmp | jsr =>
    obtain ⟨ea, hea⟩ := exists_getAddress ho s
    simp [execMnemonic, jmpOp, jsrOp, execJsr, hea]
  | brk => simp [execMnemonic, execBrk]
  | rti => simp [execMnemonic, execRti, withNone]
  | plp => simp [execMnemonic, execPlp]
  | _ => rfl

end

/-! ### The obligation -/

/-- Every instruction ends its step by writing what the step returns, and reads nothing of what the last call did. -/
theorem exec_withReturned (i : Instr) (s : State) (r : Return) : exec i (s.withReturned r) = exec i s := by
  by_cases hill : ∃ op, i = .ill op
  · obtain ⟨op, rfl⟩ := hill
    rfl
  · obtain ⟨m, -, ho, hexec⟩ := exec_eq_execMnemonic (not_exists.mp hill)
    rw [hexec, hexec, execMnemonic_withReturned s r ho]

theorem takeNmi_withReturned (s : State) (r : Return) : takeNmi (s.withReturned r) = takeNmi s := rfl

theorem takeIrq_withReturned (s : State) (r : Return) : takeIrq (s.withReturned r) = takeIrq s := rfl

theorem fetchInstr_withReturned (s : State) (r : Return) : fetchInstr (s.withReturned r) = fetchInstr s := rfl

/-- Settles O18: neither the poll nor any of the step's four courses reads the field. -/
theorem cycleCountInfluencesNothing : Obligations.CycleCountInfluencesNothing := by
  unfold Obligations.CycleCountInfluencesNothing
  intro s r
  show step (s.withReturned r) = step s
  have hpoll : (s.withReturned r).poll = s.poll := rfl
  cases h : s.poll with
  | stuck => rw [step_of_poll_stuck h, step_of_poll_stuck (hpoll.trans h), State.withReturned_pc]
  | nmi => rw [step_of_poll_nmi h, step_of_poll_nmi (hpoll.trans h), takeNmi_withReturned]
  | irq => rw [step_of_poll_irq h, step_of_poll_irq (hpoll.trans h), takeIrq_withReturned]
  | instruction =>
    rw [step_of_poll_instruction h, step_of_poll_instruction (hpoll.trans h), fetchInstr_withReturned,
      exec_withReturned]

end Sys2Proof.Machine
end

section
/-! PROOFS of O7, O14 to O17 and O52: what every step and every host call keeps. -/

namespace Sys2Proof.Machine

/-! ### The poll (R337) -/

/-- A core that does anything at a poll is not halted. -/
theorem halted_eq_false_of_poll {s : State} (h : s.poll ≠ .stuck) : s.halted = false :=
  Bool.eq_false_of_not_eq_true fun hhalted => h (State.poll_stuck hhalted)

/-- A step that answers a next state takes NMI, takes IRQ, or runs the instruction fetched. -/
theorem step_eq_next_cases {s t : State} (h : step s = .next t) :
    (s.poll = .nmi ∧ t = takeNmi s) ∨ (s.poll = .irq ∧ t = takeIrq s) ∨
      (s.poll = .instruction ∧ exec (fetchInstr s) s = .next t) := by
  cases hpoll : s.poll with
  | stuck => exact absurd ((step_of_poll_stuck hpoll).symm.trans h) nofun
  | nmi => exact .inl ⟨rfl, Host.Outcome.next.inj (h.symm.trans (step_of_poll_nmi hpoll))⟩
  | irq => exact .inr (.inl ⟨rfl, Host.Outcome.next.inj (h.symm.trans (step_of_poll_irq hpoll))⟩)
  | instruction => exact .inr (.inr ⟨rfl, (step_of_poll_instruction hpoll).symm.trans h⟩)

/-! ### What an instruction keeps, ILL included -/

/-- An instruction that answers `t` completes within the cycle bounds, or is ILL and halts. -/
theorem exec_eq_next_cases {i : Instr} {s t : State} (h : exec i s = .next t) :
    (∃ n, t.returned = .cycles n ∧ 2 ≤ n ∧ n ≤ 7 ∧ t.halted = s.halted) ∨
      ∃ op, i = .ill op ∧ t.returned = .fault (.illegalOpcode op s.pc) ∧ t.halted = true := by
  obtain ⟨u, hu, hcases⟩ := everyInstructionCompletesOrHalts i s
  obtain rfl := Host.Outcome.next.inj (hu.symm.trans h)
  exact hcases

/-- From `s` to `t` the store and P are kept in form, the platform is left as it was, and one step's draws are used. -/
def KeepsForm (s t : State) : Prop :=
  (s.mem.wf = true → t.mem.wf = true) ∧ StatusKept s.p t.p ∧ t.bus = s.bus ∧ t.draws = s.draws + 1

theorem exec_keepsForm {i : Instr} {s t : State} (h : exec i s = .next t) :
    KeepsForm s t ∧ t.nmiPending = s.nmiPending ∧ t.irqPending = s.irqPending := by
  by_cases hill : ∃ op, i = .ill op
  · obtain ⟨op, rfl⟩ := hill
    obtain rfl := Host.Outcome.next.inj ((exec_ill op s).symm.trans h)
    exact ⟨⟨id, ⟨rfl, id⟩, rfl, rfl⟩, rfl, rfl⟩
  · obtain ⟨-, -, hwf, hstatus, ⟨hbus, hdraws, hnmi, hirq⟩, -⟩ := exec_frame (not_exists.mp hill) h
    exact ⟨⟨hwf, hstatus, hbus, hdraws⟩, hnmi, hirq⟩

theorem statusKept_withFlag_I (p : Byte) : StatusKept p (withFlag p .I true) := by simp [StatusKept]

theorem takeNmi_keepsForm (s : State) : KeepsForm s (takeNmi s) := by
  refine ⟨takeNmi_wf, ?_, takeNmi_bus s, takeNmi_draws s⟩
  rw [takeNmi_p]
  exact statusKept_withFlag_I s.p

theorem takeIrq_keepsForm (s : State) : KeepsForm s (takeIrq s) := by
  refine ⟨takeIrq_wf, ?_, takeIrq_bus s, takeIrq_draws s⟩
  rw [takeIrq_p]
  exact statusKept_withFlag_I s.p

theorem step_keepsForm {s t : State} (h : step s = .next t) : KeepsForm s t := by
  obtain ⟨-, rfl⟩ | ⟨-, rfl⟩ | ⟨-, hexec⟩ := step_eq_next_cases h
  · exact takeNmi_keepsForm s
  · exact takeIrq_keepsForm s
  · exact (exec_keepsForm hexec).1

/-! ### The invariant -/

/-- What the invariant says of the value a host call returned (R332, R354). -/
def ReturnInBounds (r : Return) : Prop :=
  (∀ n, r = .cycles n → 2 ≤ n ∧ n ≤ 7) ∧ ∀ m, r ≠ .fault (.resolverMisuse m)

theorem returnInBounds_cycles {n : Nat} (hlo : 2 ≤ n) (hhi : n ≤ 7) : ReturnInBounds (.cycles n) :=
  ⟨fun _ h => Return.cycles.inj h ▸ ⟨hlo, hhi⟩, nofun⟩

theorem returnInBounds_interruptCycles : ReturnInBounds (.cycles interruptCycles) :=
  returnInBounds_cycles (by decide) (by decide)

theorem returnInBounds_illegalOpcode (op : Byte) (pc : Word) : ReturnInBounds (.fault (.illegalOpcode op pc)) :=
  ⟨nofun, nofun⟩

theorem returnInBounds_nothing : ReturnInBounds .nothing := ⟨nofun, nofun⟩

theorem step_returnInBounds {s t : State} (h : step s = .next t) : ReturnInBounds t.returned := by
  obtain ⟨-, rfl⟩ | ⟨-, rfl⟩ | ⟨-, hexec⟩ := step_eq_next_cases h
  · rw [takeNmi_returned]
    exact returnInBounds_interruptCycles
  · rw [takeIrq_returned]
    exact returnInBounds_interruptCycles
  · obtain ⟨n, hreturned, hlo, hhi, -⟩ | ⟨op, -, hreturned, -⟩ := exec_eq_next_cases hexec
    · rw [hreturned]
      exact returnInBounds_cycles hlo hhi
    · rw [hreturned]
      exact returnInBounds_illegalOpcode op s.pc

theorem inv_step {s t : State} (hinv : s.Inv) (h : step s = .next t) : t.Inv := by
  obtain ⟨hwf, ⟨hbreak, hbit5⟩, -, -⟩ := step_keepsForm h
  obtain ⟨hcycles, hmisuse⟩ := step_returnInBounds h
  exact ⟨hwf hinv.memory, hbit5 hinv.bit5, hbreak.trans hinv.breakClear, hcycles, hmisuse⟩

/-- Settles O14: a step keeps the store and P in form, and returns a count within the bounds or the fault of ILL. -/
theorem stepKeepsInvariant : Obligations.StepKeepsInvariant := by
  unfold Obligations.StepKeepsInvariant
  exact fun _ _ => inv_step

/-- Settles O15: each field of the invariant is evaluated in the reset state. -/
theorem resetMeetsInvariant : Obligations.ResetMeetsInvariant := by
  unfold Obligations.ResetMeetsInvariant
  obtain ⟨hcycles, hmisuse⟩ := returnInBounds_interruptCycles
  exact ⟨reset_mem_wf, by decide, by decide, hcycles, hmisuse⟩

theorem inv_powerOn (bus : Bus) (image : Nat → Byte) : (powerOn bus image).Inv := by
  obtain ⟨hcycles, hmisuse⟩ := returnInBounds_nothing
  have hbit5 : (0x20 : Byte).getLsbD 5 = true := by decide
  have hbreak : flagOf 0x20 .B = false := by decide
  exact ⟨powerOn_mem_wf bus image, hbit5, hbreak, hcycles, hmisuse⟩

theorem inv_resetCall {s : State} (hinv : s.Inv) : (resetCall s).Inv := by
  obtain ⟨hcycles, hmisuse⟩ := returnInBounds_interruptCycles
  exact ⟨resetCall_wf hinv.memory, by rw [resetCall_p]; decide, by rw [resetCall_p]; decide, hcycles, hmisuse⟩

theorem inv_requestIrq {s : State} (hinv : s.Inv) : (requestIrq s).Inv := by
  obtain ⟨hcycles, hmisuse⟩ := returnInBounds_nothing
  exact ⟨hinv.memory, hinv.bit5, hinv.breakClear, hcycles, hmisuse⟩

theorem inv_requestNmi {s : State} (hinv : s.Inv) : (requestNmi s).Inv := by
  obtain ⟨hcycles, hmisuse⟩ := returnInBounds_nothing
  exact ⟨hinv.memory, hinv.bit5, hinv.breakClear, hcycles, hmisuse⟩

/-- Every host call keeps the invariant; a step that answers no next state leaves the state as it was. -/
theorem inv_afterCall {s : State} (hinv : s.Inv) (c : HostCall) : (afterCall s c).Inv := by
  cases c with
  | step =>
    unfold afterCall hostCall
    cases hstep : step s with
    | next t => exact inv_step hinv hstep
    | fault r => exact hinv
    | refused r => exact hinv
  | reset => exact inv_resetCall hinv
  | requestIrq => exact inv_requestIrq hinv
  | requestNmi => exact inv_requestNmi hinv

/-- Settles O16: by induction on the calls, from power-on. -/
theorem everyReachableStateMeetsInvariant : Obligations.EveryReachableStateMeetsInvariant := by
  unfold Obligations.EveryReachableStateMeetsInvariant
  intro bus image calls
  exact List.foldlRecOn calls afterCall (inv_powerOn bus image) fun _ hinv c _ => inv_afterCall hinv c

/-! ### The platform, the stored B and the request latches -/

/-- Settles O17: each course of a step keeps the form, and only the two interrupts clear a latch, each its own. -/
theorem stepLeavesPlatformAndBreakFlag : Obligations.StepLeavesPlatformAndBreakFlag := by
  unfold Obligations.StepLeavesPlatformAndBreakFlag
  intro s t h
  obtain ⟨-, ⟨hbreak, -⟩, hbus, hdraws⟩ := step_keepsForm h
  refine ⟨hbreak, hbus, hdraws, ?_⟩
  obtain ⟨hpoll, rfl⟩ | ⟨hpoll, rfl⟩ | ⟨hpoll, hexec⟩ := step_eq_next_cases h
  · simp [hpoll]
  · simp [hpoll]
  · simp [hpoll, (exec_keepsForm hexec).2]

/-! ### Halting (R53, R318, R331) -/

theorem step_of_halted {s : State} (h : s.halted = true) : step s = .fault (.halted s.pc) :=
  step_of_poll_stuck (State.poll_stuck h)

/-- Only ILL halts the core. -/
theorem poll_and_fetchInstr_of_halted_after {s t : State} (h : step s = .next t) (hhalted : t.halted = true) :
    s.poll = .instruction ∧ ∃ op, fetchInstr s = .ill op ∧ op ∈ undocumentedOpcodes := by
  obtain ⟨hpoll, rfl⟩ | ⟨hpoll, rfl⟩ | ⟨hpoll, hexec⟩ := step_eq_next_cases h
  · rw [takeNmi_halted, halted_eq_false_of_poll (by rw [hpoll]; nofun)] at hhalted
    contradiction
  · rw [takeIrq_halted, halted_eq_false_of_poll (by rw [hpoll]; nofun)] at hhalted
    contradiction
  · refine ⟨hpoll, ?_⟩
    obtain ⟨-, -, -, -, hkept⟩ | ⟨op, hill, -⟩ := exec_eq_next_cases hexec
    · rw [hkept, halted_eq_false_of_poll (by rw [hpoll]; nofun)] at hhalted
      contradiction
    · have hwf := fetchInstr_wellFormed s
      rw [hill] at hwf
      exact ⟨op, hill, (isUndocumented_iff op).mp hwf⟩

/-- A step that fetches ILL halts the core, PC at the opcode, and the next step faults there. -/
theorem step_of_fetchInstr_ill {s : State} {op : Byte} (hpoll : s.poll = .instruction) (hill : fetchInstr s = .ill op) :
    ∃ t, step s = .next t ∧ t.halted = true ∧ t.pc = s.pc ∧ step t = .fault (.halted s.pc) := by
  refine ⟨s.halt (.illegalOpcode op s.pc), ?_, rfl, rfl, step_of_halted (State.halt_halted s _)⟩
  rw [step_of_poll_instruction hpoll, hill, exec_ill]

/-- Settles O7: the poll of a halted core is stuck, and of all calls only a fetched ILL sets and `reset()` clears it. -/
theorem haltedLatch : Obligations.HaltedLatch := by
  unfold Obligations.HaltedLatch
  exact ⟨fun _ => step_of_halted, fun _ _ => poll_and_fetchInstr_of_halted_after, fun _ _ => step_of_fetchInstr_ill,
    fun s => ⟨requestIrq_halted s, requestNmi_halted s, resetCall_halted s⟩, fun _ _ => rfl⟩

/-- Settles O52: the arm of ILL halts the core and does nothing else. -/
theorem illHaltsTheCore : Obligations.IllHaltsTheCore := by
  unfold Obligations.IllHaltsTheCore
  refine fun op _ s => ⟨rfl, exec_ill op s, fun t ht => ?_⟩
  obtain rfl := Host.Outcome.next.inj ((exec_ill op s).symm.trans ht)
  exact step_of_halted (State.halt_halted s _)

end Sys2Proof.Machine
end

section
/-! PROOFS of O49 to O51 (49_flags_nop_illegal.md): the flag instructions and NOP. -/

namespace Sys2Proof.Machine

/-- What an instruction that writes one flag does, in the form `f` (R310, R311, R314 to R316). -/
theorem exec_of_setFlag {f : Form} (hf : f.MatchesTable) {s : State} {g : Flag} {b : Bool}
    (hexec : exec f.instr s = .next (((s.advance f.operand.length).setFlag g b).finish f.instr.opcode false 0)) :
    encode f.instr = f.bytes ∧
    ∃ p' d, StatusAfter s.p p' (oneFlag g b) ∧ exec f.instr s = .next (f.after s p' false 0 d) :=
  ⟨hf.encode_eq, _, s.draws + 1, statusAfter_setFlag s.p g b, hexec.trans (by rw [← hf.finish_eq_after]; rfl)⟩

/-- What CLI and SEI do: I is written, and the mask takes the I of before (R312, R313). -/
theorem exec_of_setFlag_delayed {f : Form} (hf : f.MatchesTable) {s : State} {b before : Bool}
    (hexec : exec f.instr s =
      .next (((s.advance f.operand.length).setFlag .I b).finishDelayed f.instr.opcode before)) :
    encode f.instr = f.bytes ∧
    ∃ p' d, StatusAfter s.p p' (oneFlag .I b) ∧
      exec f.instr s = .next { f.after s p' false 0 d with irqInhibit := before } :=
  ⟨hf.encode_eq, _, s.draws + 1, statusAfter_setFlag s.p .I b,
    hexec.trans (by rw [← hf.finishDelayed_eq_after]; rfl)⟩

/-- Settles O49: each of the five writes its flag and ends its step. -/
theorem flagInstructionsWriteOneFlag : Obligations.FlagInstructionsWriteOneFlag := by
  unfold Obligations.FlagInstructionsWriteOneFlag
  intro s
  exact ⟨
    exec_of_setFlag (f := ⟨.clc, .implied, [0x18], 2, false⟩) ⟨rfl, rfl, _, rfl⟩ rfl,
    exec_of_setFlag (f := ⟨.sec, .implied, [0x38], 2, false⟩) ⟨rfl, rfl, _, rfl⟩ rfl,
    exec_of_setFlag (f := ⟨.clv, .implied, [0xB8], 2, false⟩) ⟨rfl, rfl, _, rfl⟩ rfl,
    exec_of_setFlag (f := ⟨.cld, .implied, [0xD8], 2, false⟩) ⟨rfl, rfl, _, rfl⟩ rfl,
    exec_of_setFlag (f := ⟨.sed, .implied, [0xF8], 2, false⟩) ⟨rfl, rfl, _, rfl⟩ rfl⟩

/-- After CLI with I set before it, the poll masks an IRQ once more. -/
theorem poll_after_cli {s t : State} (ht : exec .cli s = .next t) (hI : s.flag .I = true) (hhalted : s.halted = false)
    (hnmi : s.nmiPending = false) : t.poll = .instruction := by
  obtain rfl : ((s.advance 1).setFlag .I false).finishDelayed 0x58 (s.flag .I) = t := Host.Outcome.next.inj ht
  exact State.poll_instruction hhalted hnmi (by rw [State.finishDelayed_irqInhibit, hI, Bool.not_true, Bool.and_false])

/-- After SEI with I clear before it, the poll takes an IRQ once more. -/
theorem poll_after_sei {s t : State} (ht : exec .sei s = .next t) (hI : s.flag .I = false) (hhalted : s.halted = false)
    (hnmi : s.nmiPending = false) (hirq : s.irqPending = true) : t.poll = .irq := by
  obtain rfl : ((s.advance 1).setFlag .I true).finishDelayed 0x78 (s.flag .I) = t := Host.Outcome.next.inj ht
  exact State.poll_irq hhalted hnmi hirq hI

/-- Settles O50: both write I and end their step with the mask of before, which the next poll uses. -/
theorem cliSeiMaskLate : Obligations.CliSeiMaskLate := by
  unfold Obligations.CliSeiMaskLate
  intro s
  exact ⟨
    exec_of_setFlag_delayed (f := ⟨.cli, .implied, [0x58], 2, false⟩) ⟨rfl, rfl, _, rfl⟩ rfl,
    exec_of_setFlag_delayed (f := ⟨.sei, .implied, [0x78], 2, false⟩) ⟨rfl, rfl, _, rfl⟩ rfl,
    fun _ => poll_after_cli, fun _ => poll_after_sei⟩

/-- Settles O51: NOP ends its step with P as it was. -/
theorem nopOnlyAdvancesPC : Obligations.NopOnlyAdvancesPC := by
  unfold Obligations.NopOnlyAdvancesPC
  intro s
  have hend := Form.MatchesTable.finish_eq_after (f := ⟨.nop, .implied, [0xEA], 2, false⟩) ⟨rfl, rfl, _, rfl⟩ s s.p
    false 0
  exact ⟨rfl, s.draws + 1, congrArg Host.Outcome.next hend⟩

end Sys2Proof.Machine
end

section
/-! PROOFS of O8, O53 and O54 (60_exceptions.md, 48_control_flow.md): taking an interrupt, and the returns that undo
JSR and an interrupt. -/

namespace Sys2Proof.Machine

/-! ### Taking an interrupt (R338, R339, R340) -/

theorem State.MovedTo.eq {s t : State} {p' sp' : Byte} {pc' : Word} {m : Memory} (h : s.MovedTo t p' pc' sp' m) :
    t = { s with p := p', pc := pc', sp := sp', mem := m } := by
  cases t
  obtain ⟨⟨rfl, rfl, rfl, rfl⟩, rfl, rfl, rfl, rfl, rfl, rfl, rfl, rfl, rfl, rfl⟩ := h
  rfl

/-- The interrupt sequence at a vector outside internal RAM: what it stores, and the fields it writes. -/
theorem interruptSequence_effect {s : State} {v : Word} (hwf : s.mem.wf = true) (hlo : 0x2000 ≤ v.toNat)
    (hhi : 0x2000 ≤ (v + 1).toNat) :
    StoredAfter s (interruptSequence v s).mem
      [(0x0100 + zext16 s.sp, hiByte s.pc), (0x0100 + zext16 (s.sp - 1), loByte s.pc),
       (0x0100 + zext16 (s.sp - 2), (s.p ||| 0x20) &&& 0xEF)] ∧
    interruptSequence v s =
      { s with
        p := withFlag s.p .I true
        pc := s.readWord .vectorLo .vectorHi v
        sp := s.sp - 3
        mem := (interruptSequence v s).mem } := by
  have hstored := storedAfter_enterHandler hwf (interruptStatus s.p) v
  rw [stackAddr_eq, stackAddr_eq, stackAddr_eq] at hstored
  have hpc : (interruptSequence v s).pc = s.readWord .vectorLo .vectorHi v :=
    enterHandler_pc_eq_readWord _ hwf hlo hhi
  have hsp : (interruptSequence v s).sp = s.sp - 3 := by
    rw [interruptSequence_sp, sub_sub, sub_sub]
    rfl
  exact ⟨hstored, State.MovedTo.eq ⟨⟨interruptSequence_p s v, hpc, hsp, rfl⟩, by simp⟩⟩

/-- Settles O8: the poll takes NMI before IRQ, and each runs the interrupt sequence with its own latch cleared. -/
theorem interruptsAreTaken : Obligations.InterruptsAreTaken := by
  unfold Obligations.InterruptsAreTaken
  refine ⟨fun s hwf hhalted hnmi => ?_, fun s hwf hhalted hnmi hirq hmask => ?_⟩
  · obtain ⟨hstored, hentered⟩ := interruptSequence_effect (s := { s with nmiPending := false }) (v := vecNmi) hwf
      (by decide) (by decide)
    refine ⟨_, _, s.draws + 1, statusAfter_setFlag s.p .I true, hstored, ?_⟩
    rw [step_of_poll_nmi (State.poll_nmi hhalted hnmi), takeNmi, hentered]
    rfl
  · obtain ⟨hstored, hentered⟩ := interruptSequence_effect (s := { s with irqPending := false }) (v := vecIrq) hwf
      (by decide) (by decide)
    refine ⟨_, _, s.draws + 1, statusAfter_setFlag s.p .I true, hstored, ?_⟩
    rw [step_of_poll_irq (State.poll_irq hhalted hnmi hirq hmask), takeIrq, hentered]
    rfl

/-! ### A pull after a push -/

/-- Different values of SP are different slots. -/
theorem cellKey_stackAddr_inj {a b : Byte} : cellKey (stackAddr a) = cellKey (stackAddr b) ↔ a = b := by
  rw [cellKey_stackAddr, cellKey_stackAddr, Nat.add_left_cancel_iff, BitVec.toNat_inj]

/-- A slot of the stack after a push. -/
theorem stored_push_stackAddr {s : State} (v : Byte) (hwf : s.mem.wf = true) (b : Byte) :
    (s.push v).stored (stackAddr b) = if b = s.sp then v else s.stored (stackAddr b) := by
  simp only [stored_push s v hwf, cellKey_stackAddr_inj]

/-- A pull depends on SP and memory alone: no collaborator answers in the stack page. -/
theorem top_congr {s t : State} (hsp : t.sp = s.sp) (hmem : t.mem = s.mem) : t.top = s.top := by
  unfold State.top
  rw [memRead_stackAddr, memRead_stackAddr, State.stored, State.stored, hsp, hmem]

theorem topWord_congr {s t : State} (hsp : t.sp = s.sp) (hmem : t.mem = s.mem) : t.topWord = s.topWord := by
  have hpulled : t.pulled.top = s.pulled.top := top_congr (congrArg (· + 1) hsp) hmem
  rw [State.topWord, State.topWord, hpulled, top_congr hsp hmem]

theorem push_top {s : State} (v : Byte) (hwf : s.mem.wf = true) : (s.push v).top = v := by
  rw [State.top, memRead_stackAddr, stored_push_stackAddr v hwf, State.push_sp, sub_add_cancel, if_pos rfl]

/-- A push leaves the slots that one more pull and two more pulls read. -/
theorem push_pulled_top {s : State} (v : Byte) (hwf : s.mem.wf = true) : (s.push v).pulled.top = s.top := by
  have hslot : s.sp + 1 ≠ s.sp := by bv_omega
  rw [State.top, State.top, memRead_stackAddr, memRead_stackAddr, State.pulled_sp, State.push_sp, sub_add_cancel,
    State.pulled_stored, stored_push_stackAddr v hwf, if_neg hslot]

theorem push_pulled_pulled_top {s : State} (v : Byte) (hwf : s.mem.wf = true) :
    (s.push v).pulled.pulled.top = s.pulled.top := by
  have hslot : s.sp + 1 + 1 ≠ s.sp := by bv_omega
  rw [State.top, State.top, memRead_stackAddr, memRead_stackAddr, State.pulled_sp, State.pulled_sp, State.pulled_sp,
    State.push_sp, sub_add_cancel, State.pulled_stored, State.pulled_stored, State.pulled_stored,
    stored_push_stackAddr v hwf, if_neg hslot]

theorem push_pulled_topWord {s : State} (v : Byte) (hwf : s.mem.wf = true) : (s.push v).pulled.topWord = s.topWord := by
  rw [State.topWord, State.topWord, push_pulled_top v hwf, push_pulled_pulled_top v hwf]

/-- A pushed word is what two pulls return (R73). -/
theorem pushWord_topWord {s : State} (w : Word) (hwf : s.mem.wf = true) : (s.pushWord w).topWord = w := by
  have hwf' := State.push_wf (hiByte w) hwf
  rw [State.topWord, State.pushWord, push_pulled_top _ hwf', push_top _ hwf', push_top _ hwf, w16_hiByte_loByte]

/-! ### The returns -/

/-- Settles O53: two pulls give back the word that JSR pushed, the address of its last byte. -/
theorem rtsUndoesJsr : Obligations.RtsUndoesJsr := by
  unfold Obligations.RtsUndoesJsr
  intro addr s u t hwf hjsr hsp hmem
  obtain rfl := Host.Outcome.next.inj hjsr
  have hword : t.topWord = s.pc + 3 - 1 :=
    (topWord_congr (s := (s.advance 3).pushWord (s.pc + 3 - 1)) hsp hmem).trans
      (pushWord_topWord (s := s.advance 3) _ hwf)
  refine ⟨_, rfl, ?_, ?_, hmem⟩
  · show t.topWord + 1 = s.pc + 3
    rw [hword, sub_add_cancel]
  · show t.sp + 1 + 1 = s.sp
    rw [hsp]
    show s.sp - 1 - 1 + 1 + 1 = s.sp
    rw [sub_add_cancel, sub_add_cancel]

/-- Settles O54: three pulls give back the status byte and the word that the sequence pushed. -/
theorem rtiUndoesAnInterrupt : Obligations.RtiUndoesAnInterrupt := by
  unfold Obligations.RtiUndoesAnInterrupt
  intro v s t hwf hsp hmem
  have hwf' := State.pushWord_wf s.pc hwf
  have htop : t.top = interruptStatus s.p :=
    (top_congr (s := (s.pushWord s.pc).push (interruptStatus s.p)) hsp hmem).trans (push_top _ hwf')
  have hword : t.pulled.topWord = s.pc :=
    (topWord_congr (s := ((s.pushWord s.pc).push (interruptStatus s.p)).pulled) (t := t.pulled)
      (congrArg (· + 1) hsp) hmem).trans ((push_pulled_topWord _ hwf').trans (pushWord_topWord s.pc hwf))
  have hflag : ∀ f, f ≠ .B → flagOf (pulledStatus t.p t.top ||| 0x20) f = flagOf s.p f := by
    intro f hf
    rw [or_20_of_bit5 (pulledStatus_bit5 _ _), flagOf_pulledStatus, if_neg hf, htop, flagOf_interruptStatus, if_neg hf]
  have hrti : exec .rti t = .next ((returnFromHandler (t.advance 1)).finish 0x40 false 0) := rfl
  refine ⟨_, hrti, ?_, ?_, ?_, fun f hf => ?_⟩
  · rw [State.finish_pc, returnFromHandler_pc]
    exact hword
  · rw [State.finish_sp, returnFromHandler_sp, State.advance_sp, hsp, interruptSequence_sp, sub_add_cancel,
      sub_add_cancel, sub_add_cancel]
  · rw [State.finish_irqInhibit, State.flag, returnFromHandler_p]
    exact hflag .I (by decide)
  · rw [State.flag, State.finish_p, returnFromHandler_p]
    exact hflag f hf

end Sys2Proof.Machine
end

section
/-! PROOFS of O55 to O58 (70_reset_and_hazards.md): reset(), power-on, and a step before reset. -/

namespace Sys2Proof.Machine

/-! ### reset() (R372) -/

/-- The three slots of the stack that `reset()` writes, as addresses. -/
theorem stackAddr_sub (sp k : Byte) :
    stackAddr (sp - k) = BitVec.ofNat 16 (0x0100 + (sp.toNat + 256 - k.toNat) % 256) := by
  have := sp.isLt
  have := k.isLt
  apply BitVec.eq_of_toNat_eq
  rw [stackAddr_toNat, BitVec.toNat_sub, BitVec.toNat_ofNat]
  omega

theorem stored_memWrite_stackAddr_of_ne {s : State} {sp : Byte} (v : Byte) {b : Word} (hwf : s.mem.wf = true)
    (hb : cellKey b ≠ cellKey (stackAddr sp)) : (s.memWrite (stackAddr sp) v).stored b = s.stored b := by
  rw [State.stored_memWrite _ b v hwf, if_neg fun h => hb h.1]

/-- Outside the three slots the bytes are as before. -/
theorem stored_drawResetStack_of_ne {s : State} {b : Word} (hwf : s.mem.wf = true)
    (h0 : cellKey b ≠ cellKey (stackAddr s.sp)) (h1 : cellKey b ≠ cellKey (stackAddr (s.sp - 1)))
    (h2 : cellKey b ≠ cellKey (stackAddr (s.sp - 2))) : (drawResetStack s).stored b = s.stored b := by
  unfold drawResetStack
  rw [stored_memWrite_stackAddr_of_ne _ (State.memWrite_wf _ _ (State.memWrite_wf _ _ hwf)) h2,
    stored_memWrite_stackAddr_of_ne _ (State.memWrite_wf _ _ hwf) h1, stored_memWrite_stackAddr_of_ne _ hwf h0]

theorem memRead_drawResetStack_of_not_ram {s : State} (k : Access) {a : Word} (hwf : s.mem.wf = true)
    (ha : 0x2000 ≤ a.toNat) : (drawResetStack s).memRead k a = s.memRead k a := by
  have hdevice : (drawResetStack s).isDevice a = s.isDevice a := rfl
  unfold State.memRead
  rw [hdevice, drawResetStack_draws, stored_drawResetStack_of_ne hwf (cellKey_ne_stackAddr ha _)
    (cellKey_ne_stackAddr ha _) (cellKey_ne_stackAddr ha _)]

/-- The reset vector is read as it was before the call. -/
theorem resetCall_pc_eq_readWord {s : State} (hwf : s.mem.wf = true) :
    (resetCall s).pc = s.readWord .vectorLo .vectorHi vecReset := by
  rw [resetCall_pc, State.readWord, State.readWord, memRead_drawResetStack_of_not_ram _ hwf (by decide),
    memRead_drawResetStack_of_not_ram _ hwf (by decide)]

/-- The memory after `reset()`, outside the three stack bytes. -/
theorem stored_resetCall {s : State} {b : Word} (hwf : s.mem.wf = true)
    (hb : ∀ k < 3, cellKey b ≠ cellKey (BitVec.ofNat 16 (0x0100 + (s.sp.toNat + 256 - k) % 256))) :
    (resetCall s).mem.read (cellKey b) = s.stored b := by
  have hslot : ∀ k : Byte, k.toNat < 3 → cellKey b ≠ cellKey (stackAddr (s.sp - k)) := fun k hk =>
    stackAddr_sub s.sp k ▸ hb k.toNat hk
  rw [resetCall_mem]
  exact stored_drawResetStack_of_ne hwf (by simpa using hslot 0 (by decide)) (hslot 1 (by decide)) (hslot 2 (by decide))

/-- Settles O55: the draws fall on the three slots, and the vector lies outside internal RAM. -/
theorem resetCallEffect : Obligations.ResetCallEffect := by
  unfold Obligations.ResetCallEffect
  intro s hwf
  refine ⟨(resetCall s).mem, s.draws + 1, fun b hb => stored_resetCall hwf hb, ?_⟩
  have hpc : s.readWord .vectorLo .vectorHi 0xFFFC = (resetCall s).pc := (resetCall_pc_eq_readWord hwf).symm
  rw [hpc]
  rfl

/-! ### Power-on (R370, R371) -/

/-- A byte of an image is read at its offset from the base of the cartridge region. -/
theorem read_imageCells (image : Nat → Byte) {k n j : Nat} (hlo : k ≤ j) (hhi : j < k + n) (hn : k + n ≤ cartSize) :
    (imageCells image k n).read (cartBase + j) = image j := by
  induction n generalizing k with
  | zero => omega
  | succ n ih =>
    have htail : k + 1 + n ≤ cartSize := by omega
    unfold imageCells
    obtain rfl | hne := Nat.eq_or_lt_of_le hlo
    · split_ifs with hblank
      · rw [Memory.read_of_lt (imageCells_wfFrom image (k + 1) n htail) (by omega), hblank]
      · simp [Memory.read]
    · have hread := ih (k := k + 1) hne (by omega) htail
      split_ifs with hblank
      · exact hread
      · rw [Memory.read, if_neg (by omega), hread]

/-- The memory at power-on: the image from 0x4020 up, and zeros below. -/
theorem stored_powerOn (bus : Bus) (image : Nat → Byte) (b : Word) :
    (powerOn bus image).stored b = if 0x4020 ≤ b then image (b - 0x4020).toNat else 0x00 := by
  have hb := b.isLt
  show (imageCells image 0 cartSize).read (cellKey b) = _
  split_ifs with hcart
  · have hoff : (b - 0x4020).toNat = b.toNat - 0x4020 := BitVec.toNat_sub_of_le hcart
    replace hcart : 0x4020 ≤ b.toNat := hcart
    have hkey : cellKey b = cartBase + (b.toNat - 0x4020) := by
      simp only [cartBase]
      rcases cellKey_cases b with h | h | h <;> omega
    rw [hoff, hkey, read_imageCells image (Nat.zero_le _) (by simp only [cartSize]; omega) (by omega)]
  · replace hcart : ¬ 0x4020 ≤ b.toNat := hcart
    refine Memory.read_of_lt (imageCells_wfFrom image 0 cartSize (by omega)) ?_
    simp only [cartBase]
    rcases cellKey_cases b with h | h | h <;> omega

/-- Settles O56: the cells of power-on are those of the image. -/
theorem powerOnState : Obligations.PowerOnState := by
  unfold Obligations.PowerOnState
  exact fun bus image => ⟨imageCells image 0 cartSize, 0, .nothing, rfl, stored_powerOn bus image⟩

/-- On the passive platform a read right after power-on is the store's byte. -/
theorem memRead_powerOn_passive (image : Nat → Byte) (k : Access) (b : Word) :
    (powerOn .passive image).memRead k b = if 0x4020 ≤ b then image (b - 0x4020).toNat else 0x00 := by
  rw [State.memRead_of_not_device k (isDevice_of_passive b rfl), stored_powerOn]

/-- Settles O57: `reset()` reads a zero vector, and the bytes it does not draw are the zeros of power-on. -/
theorem resetStateIsPowerOnThenReset : Obligations.ResetStateIsPowerOnThenReset := by
  unfold Obligations.ResetStateIsPowerOnThenReset boot
  have hwf := powerOn_mem_wf .passive fun _ => 0x00
  have hzero : ∀ b, (powerOn .passive fun _ => 0x00).stored b = 0x00 := fun b => by rw [stored_powerOn, ite_self]
  have hvector : (resetCall (powerOn .passive fun _ => 0x00)).pc = 0x0000 := by
    rw [resetCall_pc_eq_readWord hwf, State.readWord, memRead_powerOn_passive, memRead_powerOn_passive, ite_self]
    rfl
  refine ⟨[], ?_, fun b h0 h1 h2 => ?_⟩
  · rw [State.reset, ← hvector]
    rfl
  · have hslots : ∀ k < 3, cellKey b ≠ cellKey (BitVec.ofNat 16 (0x0100 + (0 + 256 - k) % 256)) := by
      intro k hk
      interval_cases k
      · exact h0
      · exact h2
      · exact h1
    exact ((stored_resetCall hwf hslots).trans (hzero b)).symm

/-! ### A step before reset() (R373) -/

/-- The six flags, the stored B and bit 5 are all of a status byte. -/
theorem status_ext {p q : Byte} (hbit5 : p.getLsbD 5 = q.getLsbD 5) (hflags : ∀ f, flagOf p f = flagOf q f) :
    p = q := by
  simp only [flagOf_eq_getLsbD] at hflags
  refine BitVec.eq_of_getLsbD_eq fun i hi => ?_
  obtain rfl | ⟨f, rfl⟩ : i = 5 ∨ ∃ f : Flag, f.bit = i := by
    interval_cases i
    · exact .inr ⟨.C, rfl⟩
    · exact .inr ⟨.Z, rfl⟩
    · exact .inr ⟨.I, rfl⟩
    · exact .inr ⟨.D, rfl⟩
    · exact .inr ⟨.B, rfl⟩
    · exact .inl rfl
    · exact .inr ⟨.V, rfl⟩
    · exact .inr ⟨.N, rfl⟩
  · exact hbit5
  · exact hflags f

theorem StatusAfter.unique {p q r : Byte} {w : Flag → Option Bool} (hq : StatusAfter p q w) (hr : StatusAfter p r w) :
    q = r :=
  status_ext (hq.1.trans hr.1.symm) fun f => (hq.2 f).trans (hr.2 f).symm

/-- The first instruction of a block that has not been reset is BRK, its padding byte 0x00. -/
theorem fetchInstr_powerOn_passive (image : Nat → Byte) : fetchInstr (powerOn .passive image) = .brk 0x00 := by
  have hpc : (powerOn .passive image).pc = 0x0000 := rfl
  have hzero : ∀ (k : Access) (b : Word), ¬ 0x4020 ≤ b → (powerOn .passive image).memRead k b = 0x00 := fun k b hb => by
    rw [memRead_powerOn_passive, if_neg hb]
  obtain ⟨rest, hdecode⟩ := decode_fetched_bytes (powerOn .passive image)
  rw [hpc, hzero _ _ (by decide), hzero _ _ (by decide), hzero _ _ (by decide)] at hdecode
  exact (Prod.mk.inj (Except.ok.inj hdecode)).1.symm

/-- Settles O58: O47 for that BRK, with SP and P of power-on. -/
theorem stepBeforeReset : Obligations.StepBeforeReset := by
  unfold Obligations.StepBeforeReset
  intro image
  obtain ⟨-, p', m, d, hstatus, hstored, hexec⟩ :=
    brkEntersTheHandler 0x00 (powerOn .passive image) (powerOn_mem_wf _ image)
  have hsp : (powerOn .passive image).sp = 0x00 := rfl
  have hpc : (powerOn .passive image).pc = 0x0000 := rfl
  have hp : (powerOn .passive image).p = 0x20 := rfl
  have hpushed :
      [((0x0100 : Word) + zext16 0x00, hiByte (0x0000 + 2)), (0x0100 + zext16 (0x00 - 1), loByte (0x0000 + 2)),
        (0x0100 + zext16 (0x00 - 2), (0x20 : Byte) ||| 0x30)] =
      [(0x0100, 0x00), (0x01FF, 0x02), (0x01FE, 0x30)] := by decide
  rw [hsp, hpc, hp, hpushed] at hstored
  obtain rfl : p' = 0x24 := hstatus.unique (statusAfter_setFlag 0x20 .I true)
  have hvector : (powerOn .passive image).readWord .vectorLo .vectorHi 0xFFFE = w16 (image 0xBFDF) (image 0xBFDE) := by
    rw [State.readWord, memRead_powerOn_passive, memRead_powerOn_passive]
    rfl
  refine ⟨m, d, hstored, ?_⟩
  rw [step_of_poll_instruction rfl, fetchInstr_powerOn_passive, hexec, hvector]
  rfl

end Sys2Proof.Machine
end
